-- ==== Sys2Proof/Word.lean ====
section
/-!
DEFINITION. The words of the Orbisel QX264 and their plainest arithmetic: bytes, serials, counters, stream tags and
drain tags, and the distance of serials (R61).
-/

namespace Sys2Proof

/-- One byte: 8 bits (Introduction, Counts and sizes). -/
abbrev Byte := BitVec 8

/-- A 12-bit serial, 0 to 4,095; its arithmetic is modulo 4,096 (R61). -/
abbrev Serial := BitVec 12

/-- A 32-bit counter that wraps to 0 after 4,294,967,295 (R3, R158). -/
abbrev Counter := BitVec 32

/-- The 32-bit check word and its running register (R174). -/
abbrev CheckWord := BitVec 32

/-- A stream tag 1 to 63, held as its place 0 to 62 in the stream table (R1). Tag 0 has no stream record. -/
abbrev Tag := Fin 63

/-- A drain tag that has an entry in the drain-tag map, 0 to 254 (R7). -/
abbrev DrainTag := Fin 255

/-- A stream's class, 0 to 3 (R2). -/
abbrev StreamClass := Fin 4

/-- The number 1 to 63 of a stream tag. -/
def Tag.number (t : Tag) : Nat := t.val + 1

/-- The stream tag of a number, where it is 1 to 63 (R1, R151). -/
def Tag.ofNumber? (n : Nat) : Option Tag :=
  if h : 1 ≤ n ∧ n ≤ 63 then some ⟨n - 1, by omega⟩ else none

/-- The stream tags in ascending order. -/
def allTags : List Tag := List.finRange 63

/-- R61: the distance from serial a to serial b, the number of steps forward from a to b. -/
def Serial.distance (a b : Serial) : Nat := (b - a).toNat

end Sys2Proof
end

