-- ==== Sys2Proof/Syntax.lean ====
section
/-!
DEFINITION. The commands of the QX264: one constructor of `Instr` for each row of spec/opcode_table.json, in its order,
with the operands that reach the part from outside when the step is taken.
-/

namespace Sys2Proof

/-- A data byte of a lane as the lane decoder gives it (R173). -/
inductive LaneByte where
  /-- A byte that was decoded. -/
  | data (b : Byte)
  /-- A symbol that cannot be decoded: a data byte of unknown value. -/
  | undecodable
  deriving DecidableEq, Repr

/-- A symbol between a start marker and an end marker (R173): a data byte, or idle fill, which is not a byte. -/
inductive LaneSymbol where
  | byte (b : LaneByte)
  | idle
  deriving DecidableEq, Repr

/-- The control symbols that open and close a frame (R173). -/
inductive Marker where
  | start
  | finish
  deriving DecidableEq, Repr

/-- Where a portion of a drain-link frame begins and ends (R106, R121). The receiver acts on the start marker, on the header and on the
end, and the carrier or a reset may come between them (log 18). -/
structure Extent where
  /-- The frame's start marker comes first; otherwise the symbols go on with the frame whose start marker has come. -/
  opens : Bool
  /-- The marker that comes last: the end marker, or the start marker that cuts the frame short. `none`: the frame goes on. -/
  ends : Option Marker
  deriving DecidableEq, Repr

/-- A portion of a drain-link frame: its extent, and the symbols between. -/
structure Portion where
  extent : Extent
  symbols : List LaneSymbol
  deriving DecidableEq, Repr

/-- How much of a good drain-link frame a command brings (log 18). -/
inductive FramePart where
  /-- The start marker, the frame and its end marker. -/
  | whole
  /-- The start marker and the first bytes, as many as given; the frame goes on. -/
  | opening (count : Nat)
  /-- What has not come yet, and the end marker. -/
  | closing
  deriving DecidableEq, Repr

/-- The fields of ACK, REPLAY, HOLD and RESUME (R175). HOLD and RESUME do not use SERIAL. -/
structure ReturnFields where
  drainTag : Byte
  serial : Serial
  deriving DecidableEq, Repr

/-- The fields of a NOTE from the consumer (R175, R183); SERIAL is not used. -/
structure NoteFields where
  serial : Serial
  number : Byte
  payload : List Byte
  deriving DecidableEq, Repr

/-- The fields of a NOTE-TAKEN from the consumer (R175, R183); SERIAL is not used. -/
structure NoteTakenFields where
  serial : Serial
  number : Byte
  deriving DecidableEq, Repr

/-- The levels of the straps PROF1, PROF0 and AUTOOPEN, true for high, at a moment when they are sampled (R4, R6). -/
structure Straps where
  prof1 : Bool
  prof0 : Bool
  autoopen : Bool
  deriving DecidableEq, Repr

/-- How long RESET_N stays low (R184). -/
inductive PulseLength where
  /-- At least 1 µs: it resets the part. -/
  | atLeast1us
  /-- Shorter than 1 µs: it may or may not reset the part. -/
  | under1us
  deriving DecidableEq, Repr

/-- The commands, one for each row of spec/opcode_table.json. -/
inductive Instr where
  /-- POWER_UP (R162): power is applied with RESET_N at the given level. -/
  | powerUp (resetNHigh : Bool)
  /-- RESET_N_LOW (R162, R184): RESET_N goes low for a pulse of the given length. -/
  | resetNLow (pulse : PulseLength)
  /-- DEVICE_RESET (R162): the rising edge of RESET_N, with the straps as sampled. -/
  | deviceReset (straps : Straps)
  /-- FEED_HEADER (R41): the bytes of a feed frame arrive, its header with them: the symbols since its start marker, or since
  the last command where part of the header has come already. -/
  | feedHeader (symbols : List LaneSymbol)
  /-- DATA_FRAME_END (R51): the end marker of a stored DATA frame, with the symbols since the bytes that are held. -/
  | dataFrameEnd (symbols : List LaneSymbol)
  /-- FEED_FRAME_CUT_SHORT (R52): the marker that cuts the frame in reception short, with the symbols since the bytes that
  are held, or since its start marker. -/
  | feedFrameCutShort (marker : Marker) (symbols : List LaneSymbol)
  /-- FEED_FRAME_IGNORED (R40): symbols that arrive in AWAIT-START without a start marker before them, or an end marker. -/
  | feedFrameIgnored (symbols : List LaneSymbol)
  /-- REQUEST_ARRIVAL (R146): the end marker of a staged REQUEST, with the symbols since the bytes that are held. -/
  | requestArrival (symbols : List LaneSymbol)
  /-- PRODUCER_NOTE (R136): the end marker of a staged NOTE, with the symbols since the bytes that are held. -/
  | producerNote (symbols : List LaneSymbol)
  /-- PRODUCER_NOTE_TAKEN (R137): the end marker of a staged NOTE-TAKEN, with the symbols since the bytes that are
  held. -/
  | producerNoteTaken (symbols : List LaneSymbol)
  /-- ACK (R68): part of a good ACK frame on the drain link; it is taken at its end. -/
  | ack (part : FramePart) (fields : ReturnFields)
  /-- REPLAY (R69): part of a good REPLAY frame. -/
  | replay (part : FramePart) (fields : ReturnFields)
  /-- HOLD (R118): part of a good HOLD frame. -/
  | hold (frame : FramePart × ReturnFields)
  /-- RESUME (R118): part of a good RESUME frame. -/
  | resume (frame : FramePart × ReturnFields)
  /-- CONSUMER_NOTE (R137): part of a good NOTE frame. -/
  | consumerNote (part : FramePart) (fields : NoteFields)
  /-- CONSUMER_NOTE_TAKEN (R136): part of a good NOTE-TAKEN frame. -/
  | consumerNoteTaken (frame : FramePart × NoteTakenFields)
  /-- DRAIN_FRAME_DROPPED (R121): a portion of a drain-link frame that is dropped: at its header, at its end, or where a start marker
  cuts it short. -/
  | drainFrameDropped (extent : Extent) (symbols : List LaneSymbol)
  /-- RETURN_FRAME_DISCARDED (R106): a portion of a drain-link frame whose start marker came while the carrier was not UP, or that was
  in reception at carrier loss. -/
  | returnFrameDiscarded (portion : Portion)
  /-- TIMER_EXPIRY (R93, R94): the RUNNING timer of the stream counts to 0. -/
  | timerExpiry (stream : Tag)
  /-- CARRIER_PRESENT (R102): CARRIER becomes present. -/
  | carrierPresent
  /-- CARRIER_ABSENT (R105): CARRIER becomes absent. -/
  | carrierAbsent
  /-- CARRIER_SETTLED (R104): the settle count reaches 0. -/
  | carrierSettled
  /-- DATA_TRANSMISSION_START (R63): the drain arbiter chooses a stream and starts its frame at the cursor. -/
  | dataTransmissionStart
  /-- DATA_TRANSMISSION_COMPLETE (R64): the DATA transmission completes. -/
  | dataTransmissionComplete
  /-- FORWARD_NOTE_START (R136): the drain arbiter starts the forward note. -/
  | forwardNoteStart
  /-- FORWARD_NOTE_COMPLETE (R136): the forward note's transmission completes. -/
  | forwardNoteComplete
  /-- DRAIN_INDICATION_START (R140): the drain arbiter starts a pending indication toward the consumer. -/
  | drainIndicationStart
  /-- DRAIN_INDICATION_COMPLETE (R140): the indication's transmission completes. -/
  | drainIndicationComplete
  /-- FLOW_FRAME_START (R132): the feed arbiter takes a FLOW frame. -/
  | flowFrameStart
  /-- FEED_INDICATION_START (R141): the feed arbiter takes a pending indication toward the producer. -/
  | feedIndicationStart
  /-- RESPONSE_START (R148): the feed arbiter takes the oldest ANSWERING slot's RESPONSE. -/
  | responseStart
  /-- BACK_NOTE_START (R137): the feed arbiter starts the back note. -/
  | backNoteStart
  /-- EVENT_FRAME_START (R168): the feed arbiter takes an EVENT frame. -/
  | eventFrameStart
  /-- RESPONSE_COMPLETE (R148, R160): a RESPONSE transmission completes; the straps are those sampled if a device reset
  follows. -/
  | responseComplete (straps : Straps)
  /-- BACK_NOTE_COMPLETE (R137): the back note's transmission completes. -/
  | backNoteComplete
  /-- FEED_FRAME_COMPLETE (R171): a FLOW, note indication or EVENT transmission completes. -/
  | feedFrameComplete
  /-- IDENTIFY (R156): the effect step of an IDENTIFY request. -/
  | identify
  /-- READ_SETTINGS (R154): the effect step of a READ-SETTINGS request. -/
  | readSettings
  /-- WRITE_SETTINGS (R155): the effect step of a WRITE-SETTINGS request. -/
  | writeSettings
  /-- READ_STREAM (R157): the effect step of a READ-STREAM request. -/
  | readStream
  /-- WRITE_STREAM (R22): the effect step of a WRITE-STREAM request. -/
  | writeStream
  /-- OPEN_STREAM (R18): the effect step of an OPEN-STREAM request. -/
  | openStream
  /-- CLOSE_STREAM_DRAIN (R19): the effect step of a CLOSE-STREAM request in DRAIN mode. -/
  | closeStreamDrain
  /-- CLOSE_STREAM_DISCARD (R20): the effect step of a CLOSE-STREAM request in DISCARD mode. -/
  | closeStreamDiscard
  /-- FLUSH_STREAM (R83): the effect step of a FLUSH-STREAM request. -/
  | flushStream
  /-- RESTART_STREAM (R21): the effect step of a RESTART-STREAM request. -/
  | restartStream
  /-- READ_COUNTERS (R159): the effect step of a READ-COUNTERS request. -/
  | readCounters
  /-- CLEAR_NOTE (R143): the effect step of a CLEAR-NOTE request. -/
  | clearNote
  /-- DISCARD_ALL (R85): the effect step of a DISCARD-ALL request. -/
  | discardAll
  /-- RESET_DEVICE (R160): the effect step of a RESET-DEVICE request. -/
  | resetDevice
  /-- UNKNOWN_COMMAND (R150): the effect step of a request with an unknown command value. -/
  | unknownCommand
  /-- TICK (R90): one tick of 20 µs. -/
  | tick
  /-- SKIPPING_FRAME_END (R42): the end marker of a frame that is being skipped, with the symbols since the bytes that are
  counted. -/
  | skippingFrameEnd (symbols : List LaneSymbol)
  deriving DecidableEq, Repr

/-- Where a command comes from. -/
inductive Origin where
  /-- Power, RESET_N or CARRIER. -/
  | pin
  /-- The producer's lane of the feed link. -/
  | feedLink
  /-- The consumer's lane of the drain link. -/
  | drainLink
  /-- The 20 µs clock and what falls at its tick. -/
  | clock
  /-- The part itself: an arbiter's decision, the end of a transmission, or an effect step. -/
  | part
  deriving DecidableEq, Repr

/-- Where each command comes from. -/
def Instr.origin : Instr → Origin
  | .powerUp _ => .pin
  | .resetNLow _ => .pin
  | .deviceReset _ => .pin
  | .feedHeader _ => .feedLink
  | .dataFrameEnd _ => .feedLink
  | .feedFrameCutShort _ _ => .feedLink
  | .feedFrameIgnored _ => .feedLink
  | .requestArrival _ => .feedLink
  | .producerNote _ => .feedLink
  | .producerNoteTaken _ => .feedLink
  | .ack _ _ => .drainLink
  | .replay _ _ => .drainLink
  | .hold _ => .drainLink
  | .resume _ => .drainLink
  | .consumerNote _ _ => .drainLink
  | .consumerNoteTaken _ => .drainLink
  | .drainFrameDropped _ _ => .drainLink
  | .returnFrameDiscarded _ => .drainLink
  | .timerExpiry _ => .clock
  | .carrierPresent => .pin
  | .carrierAbsent => .pin
  | .carrierSettled => .clock
  | .dataTransmissionStart => .part
  | .dataTransmissionComplete => .part
  | .forwardNoteStart => .part
  | .forwardNoteComplete => .part
  | .drainIndicationStart => .part
  | .drainIndicationComplete => .part
  | .flowFrameStart => .part
  | .feedIndicationStart => .part
  | .responseStart => .part
  | .backNoteStart => .part
  | .eventFrameStart => .part
  | .responseComplete _ => .part
  | .backNoteComplete => .part
  | .feedFrameComplete => .part
  | .identify => .part
  | .readSettings => .part
  | .writeSettings => .part
  | .readStream => .part
  | .writeStream => .part
  | .openStream => .part
  | .closeStreamDrain => .part
  | .closeStreamDiscard => .part
  | .flushStream => .part
  | .restartStream => .part
  | .readCounters => .part
  | .clearNote => .part
  | .discardAll => .part
  | .resetDevice => .part
  | .unknownCommand => .part
  | .tick => .clock
  | .skippingFrameEnd _ => .feedLink

/-- The command names a step that the part takes by itself at the moment it falls due: an expiry or the end of settling at its tick
(R90, R102), or the start that an arbiter decides (R112, R170). -/
def Instr.ownStep : Instr → Bool
  | .powerUp _ => false
  | .resetNLow _ => false
  | .deviceReset _ => false
  | .feedHeader _ => false
  | .dataFrameEnd _ => false
  | .feedFrameCutShort _ _ => false
  | .feedFrameIgnored _ => false
  | .requestArrival _ => false
  | .producerNote _ => false
  | .producerNoteTaken _ => false
  | .ack _ _ => false
  | .replay _ _ => false
  | .hold _ => false
  | .resume _ => false
  | .consumerNote _ _ => false
  | .consumerNoteTaken _ => false
  | .drainFrameDropped _ _ => false
  | .returnFrameDiscarded _ => false
  | .timerExpiry _ => true
  | .carrierPresent => false
  | .carrierAbsent => false
  | .carrierSettled => true
  | .dataTransmissionStart => true
  | .dataTransmissionComplete => false
  | .forwardNoteStart => true
  | .forwardNoteComplete => false
  | .drainIndicationStart => true
  | .drainIndicationComplete => false
  | .flowFrameStart => true
  | .feedIndicationStart => true
  | .responseStart => true
  | .backNoteStart => true
  | .eventFrameStart => true
  | .responseComplete _ => false
  | .backNoteComplete => false
  | .feedFrameComplete => false
  | .identify => false
  | .readSettings => false
  | .writeSettings => false
  | .readStream => false
  | .writeStream => false
  | .openStream => false
  | .closeStreamDrain => false
  | .closeStreamDiscard => false
  | .flushStream => false
  | .restartStream => false
  | .readCounters => false
  | .clearNote => false
  | .discardAll => false
  | .resetDevice => false
  | .unknownCommand => false
  | .tick => false
  | .skippingFrameEnd _ => false

end Sys2Proof
end

