-- ==== Sys2Proof/Config.lean ====
section
/-!
DEFINITION. What the part fixes (R156, R179), and the two values the spec leaves open as constants without a body: the
value of a symbol that cannot be decoded (R173) and the fate of a short reset pulse (R184).
-/

namespace Sys2Proof

/-- R25: the number of cells in the pool. -/
def Config.cellCount : Nat := 8192

/-- R25: the bytes of one cell. -/
def Config.cellSize : Nat := 64

/-- R26: the number of frame records. -/
def Config.recordCount : Nat := 2048

/-- R175: the largest DATA payload. -/
def Config.largestFrame : Nat := 2048

/-- R145: the number of request slots. -/
def Config.requestSlots : Nat := 4

/-- R166: the records the event queue can hold. -/
def Config.eventQueueSize : Nat := 16

/-- R166: the lost-event count stays here once it is reached. -/
def Config.lostMax : Nat := 65535

/-- R139: an indication record's count is held here once it is reached. -/
def Config.indicationMax : Nat := 255

/-- R179: family code. -/
def Config.familyCode : Byte := 0x5A#8

/-- R179: part code. -/
def Config.partCode : BitVec 16 := 0x0264#16

/-- R179: revision. -/
def Config.revision : Byte := 0x01#8

/-- FREE VALUE (DESIGN CHOICE, log 16). R173: a symbol that the lane decoder cannot decode is taken as a data byte of
unknown value; this is the value of the n-th such symbol. Nothing constrains it. -/
opaque Config.undecodedByte : Nat → Byte

/-- FREE VALUE (DESIGN CHOICE, log 10). R184: a low pulse of RESET_N shorter than 1 µs may or may not reset the part; this
says whether the n-th such pulse does. Nothing constrains it. -/
opaque Config.shortPulseResets : Nat → Bool

end Sys2Proof
end

