-- ==== Sys2Proof/Machine/State.lean ====
section
/-!
DEFINITION. The state of the QX264 as plain data, every piece that the spec names in one home, and its values right
after device reset. What the spec defines as a function of other state (the resident frame count, pending flow
indications, custody, ATTN_N) is computed in Flags.lean and Ops.lean and not stored twice.
-/

namespace Sys2Proof.Machine

/-- Why the machine stops. -/
inductive Fault where
  /-- Raised by DATA_TRANSMISSION_START where the chosen stream's queue holds no frame at its cursor. Law R61 rules that
  out in every state a run reaches; safe. -/
  | queueBroken
  deriving DecidableEq, Repr

/-- Why the model gives a command no meaning. -/
inductive Refusal where
  /-- Raised by an arm of `exec` whose row has no meaning yet; safe. -/
  | notModelled (mnemonic : String)
  /-- Raised by a command that names a step of the part which has no occasion in the present state ("Not possible" in
  R136 and R137; a completion with nothing in transmission; a start that the arbiter would not choose; an effect step
  of a request that is not EXECUTING). No such step can be taken by the part, so stopping is safe (log 6). -/
  | notPossible (mnemonic : String)
  deriving DecidableEq, Repr

/-! ### The stream table (R1 to R24) -/

/-- R2: the configuration fields of a stream. -/
structure StreamConfig where
  drainTag : DrainTag
  streamClass : StreamClass
  window : Nat
  ackTimeout : Nat
  replayBudget : Nat
  highWatermark : Nat
  lowWatermark : Nat
  cellLimit : Nat
  deriving DecidableEq, Repr

/-- R1, section 1.4: the four states of a stream. -/
inductive StreamState where
  | closed
  | opened
  | draining
  | halted
  deriving DecidableEq, Repr

/-- R125: a stream's flow state, and the state last sent for it. -/
inductive FlowState where
  | go
  | paused
  deriving DecidableEq, Repr

/-- R88: the acknowledgement timer. `due` is a RUNNING timer whose count a tick has just lowered from 1 to 0, so that its expiry
is the next thing the part does (R90; log 3). -/
inductive Timer where
  | idle
  | running (count : Nat)
  | due
  | frozen (count : Nat)
  deriving DecidableEq, Repr

/-- R3: the nine counters of a stream. -/
structure StreamCounters where
  admitted : Counter := 0#32
  refusedState : Counter := 0#32
  refusedLimit : Counter := 0#32
  refusedPool : Counter := 0#32
  starts : Counter := 0#32
  resends : Counter := 0#32
  timeouts : Counter := 0#32
  peerReplays : Counter := 0#32
  staleReturns : Counter := 0#32
  deriving DecidableEq, Repr

/-- R27: a frame record that is not FREE. Its custody is where it is held (log 26): FILLING in the feed receiver,
RESIDENT in a stream's queue, DEFERRED in the drain transmitter with the mark clear. The serial is absent while FILLING. -/
structure FrameRecord where
  number : Nat
  stream : Tag
  serial : Option Serial
  length : Nat
  chain : List Nat
  deriving DecidableEq, Repr

/-- R1, R2: a stream record. -/
structure Stream where
  config : StreamConfig
  state : StreamState := .closed
  occupancy : Nat := 0
  /-- R60: the resident frames, oldest first; the resident frame count is the length. -/
  queue : List FrameRecord := []
  head : Serial := 0#12
  cursor : Serial := 0#12
  reach : Serial := 0#12
  tail : Serial := 0#12
  held : Bool := false
  flow : FlowState := .go
  sentFlow : FlowState := .go
  overrunReported : Bool := false
  timer : Timer := .idle
  budget : Nat
  closeRequested : Bool := false
  counters : StreamCounters := {}
  deriving DecidableEq, Repr

/-! ### Cell pool (R25 to R39) -/

/-- R36: the pool state, and the pool state last sent (R131). -/
inductive PoolLevel where
  | normal
  | low
  deriving DecidableEq, Repr

/-- R25, R26, R36: the two free lists, front first, and the pool state. -/
structure Pool where
  freeCells : List Nat
  freeRecords : List Nat
  level : PoolLevel
  deriving DecidableEq, Repr

/-- The contents of the cells: byte i of cell c at address 64 c + i (R25, R28). Canonical: addresses strictly rising, no
entry 00h, which is what an unlisted address reads as (log 13). -/
abbrev Memory := List Host.Cell

/-! ### Feed receiver (R40) -/

/-- A received header's four fields (R41). -/
structure Header where
  kind : Byte
  tag : Byte
  serial : BitVec 16
  length : BitVec 16
  deriving DecidableEq, Repr

/-- R40: the feed receiver. `received` is the bytes of the frame that have come: of its header in HEADER, after its header in
STORING and in STAGING, whose staging buffer they are; the byte count is its length. `running` is the running check word over the
header, from which that over the bytes since then follows (log 14); in HEADER it follows from the bytes. `damaged` says that one of the
frame's bytes could not be decoded, so that it fails its check (R173). -/
inductive FeedReceiver where
  | awaitStart
  | header (received : List Byte) (damaged : Bool)
  | storing (record : FrameRecord) (received : List Byte) (running : CheckWord) (damaged : Bool)
  | staging (header : Header) (received : List Byte) (running : CheckWord) (damaged : Bool)
  | skipping (skipped : Nat)
  deriving DecidableEq, Repr

/-! ### Return receiver (R121) -/

/-- R121: the return receiver holds the frame in reception, which is at most one. `receiving`: a frame whose start marker came while the
carrier was UP, with the bytes that have come; fewer than six, or a header that has passed its tests. `damaged`: one of them could not be
decoded, so that the frame fails its check (R173). `skipping`: the rest of a frame whose malformed header is counted. `discarding`: the
rest of a frame whose start marker came while the carrier was not UP, or that was arriving at carrier loss (R106). -/
inductive DrainReceiver where
  | awaitStart
  | receiving (received : List Byte) (damaged : Bool)
  | skipping
  | discarding
  deriving DecidableEq, Repr

/-! ### Notes (R135) -/

/-- R135: a note's number and payload. -/
structure Note where
  number : Byte
  payload : List Byte
  deriving DecidableEq, Repr

/-- R135: a note slot; the clear-requested mark exists only in SENDING. -/
inductive NoteSlot where
  | empty
  | waiting (note : Note)
  | sending (note : Note) (clearRequested : Bool)
  | awaitingTaken (note : Note)
  deriving DecidableEq, Repr

/-- R135: a pending indication record: the latest note number and the count of events it stands for. -/
structure Indication where
  number : Byte
  count : Nat
  deriving DecidableEq, Repr

/-- R135: the two slots and the four indication records (`none`: not pending). -/
structure NoteBlock where
  forward : NoteSlot := .empty
  back : NoteSlot := .empty
  doneToProducer : Option Indication := none
  refusedToProducer : Option Indication := none
  doneToConsumer : Option Indication := none
  refusedToConsumer : Option Indication := none
  deriving DecidableEq, Repr

/-! ### Drain transmitter (R32, R102, R107, R115, R116) -/

/-- R107: the frame in transmission on the drain link. A DATA frame is held by its record, the still-resident mark and the
drain tag and serial sent; an indication holds what was sent and the tally gathered since (R140). -/
inductive DrainTransmission where
  | data (record : FrameRecord) (resident : Bool) (drainTag : DrainTag) (serial : Serial)
  | note (note : Note)
  | noteDone (sent : Indication) (tally : Option Indication)
  | noteRefused (sent : Indication) (tally : Option Indication)
  deriving DecidableEq, Repr

/-- R102: the carrier state with its settle count. `settled` is SETTLING whose count a tick has just lowered from 1 to 0, so that
UP is the next thing the part does (log 4). -/
inductive Carrier where
  | down
  | settling (count : Nat)
  | settled
  | up
  deriving DecidableEq, Repr

/-- R115: one credit for each of classes 1 to 3; also their weights in the settings record (R153). -/
structure ClassWeights where
  class1 : Nat
  class2 : Nat
  class3 : Nat
  deriving DecidableEq, Repr

/-- R116: the round-robin position of each class. -/
structure Positions where
  class0 : Tag
  class1 : Tag
  class2 : Tag
  class3 : Tag
  deriving DecidableEq, Repr

/-! ### Management engine (R145 to R163) -/

/-- R145, R176: a request as received. -/
structure Request where
  number : Byte
  command : Byte
  target : Byte
  parameters : List Byte
  deriving DecidableEq, Repr

/-- R150: the statuses. -/
inductive Status where
  | ok
  | accepted
  | badCommand
  | badTag
  | badValue
  | badState
  | conflict
  deriving DecidableEq, Repr

/-- R149: a RESPONSE. -/
structure Response where
  number : Byte
  command : Byte
  target : Byte
  status : Status
  result : List Byte
  deriving DecidableEq, Repr

/-- R145: a request slot that is not FREE. -/
inductive Slot where
  | queued (request : Request)
  | executing (request : Request)
  | answering (response : Response)
  deriving DecidableEq, Repr

/-- R153: the settings record. -/
structure Settings where
  reserve : Nat := 512
  hysteresis : Nat := 128
  weights : ClassWeights := ⟨8, 4, 1⟩
  /-- R181: bit k enables the event kind of value k + 1. -/
  eventMask : BitVec 16 := 0x17F7#16
  settleTime : Nat := 50
  deriving DecidableEq, Repr

/-- R158: the seven port counters. -/
structure PortCounters where
  feedCheckErrors : Counter := 0#32
  feedMalformed : Counter := 0#32
  drainCheckErrors : Counter := 0#32
  drainMalformed : Counter := 0#32
  drainStray : Counter := 0#32
  noteStray : Counter := 0#32
  requestsLost : Counter := 0#32
  deriving DecidableEq, Repr

/-! ### Event block and feed transmitter (R164 to R172) -/

/-- The 13 event kinds (section 10.1, R182). -/
inductive EventKind where
  | deviceStarted
  | streamHalted
  | streamClosed
  | timeoutReplay
  | overrun
  | ackAhead
  | replayAhead
  | strayReturn
  | carrierLost
  | carrierUp
  | poolLow
  | poolNormal
  | requestLost
  deriving DecidableEq, Repr

/-- An event record's five fields, absent ones holding 0, 255 and 0FFFFh (section 10.1, R182). -/
structure EventRecord where
  kind : EventKind
  streamTag : Byte := 0#8
  drainTag : Byte := 0xFF#8
  serial : BitVec 16 := 0xFFFF#16
  detail : BitVec 16
  deriving DecidableEq, Repr

/-- R166: the event queue, oldest first, and the lost-event count. -/
structure EventBlock where
  queue : List EventRecord := []
  lost : Nat := 0
  deriving DecidableEq, Repr

/-- R183: what a FLOW frame says. -/
inductive FlowIndication where
  | pause (stream : Tag)
  | go (stream : Tag)
  | poolPause
  | poolGo
  deriving DecidableEq, Repr

/-- R170, R171: a frame in transmission on the feed link. -/
inductive FeedFrame where
  | flow (indication : FlowIndication)
  | noteDone (indication : Indication)
  | noteRefused (indication : Indication)
  | response (response : Response)
  | note (note : Note)
  | event (record : EventRecord) (lost : Nat)
  deriving DecidableEq, Repr

/-! ### Pins and the whole state -/

/-- R184: the RESET_N pin. `lowShort` is a low pulse under 1 µs, of which the rising edge says whether it resets the part
(log 10). -/
inductive ResetPin where
  | high
  | low
  | lowShort
  deriving DecidableEq, Repr

/-- R162: the part is held in reset (RESET_N low, or power applied and no rising edge yet), or runs. -/
inductive Phase where
  | inReset
  | running
  deriving DecidableEq, Repr

/-- The whole state. -/
@[ext]
structure State where
  phase : Phase
  resetPin : ResetPin
  /-- R102, R103: the level of the CARRIER pin. -/
  carrierPin : Bool
  /-- R4: the sampled profile number. -/
  profile : Fin 4
  /-- R6: the sampled AUTOOPEN level. -/
  autoopen : Bool
  /-- R1: the stream records of tags 1 to 63. -/
  streams : Vector Stream 63
  /-- R7: the drain-tag map. -/
  drainMap : Vector (Option Tag) 255
  cells : Memory
  pool : Pool
  /-- R131: the sent pool state. -/
  sentPool : PoolLevel
  /-- R132: the flow position. -/
  flowPosition : Tag
  feedRx : FeedReceiver
  feedTx : Option FeedFrame
  /-- R121: the frame in reception on the drain link. -/
  drainRx : DrainReceiver
  drainTx : Option DrainTransmission
  carrier : Carrier
  credits : ClassWeights
  positions : Positions
  notes : NoteBlock
  /-- R145: the request slots that are not FREE, in arrival order. -/
  slots : List Slot
  resetPending : Bool
  settings : Settings
  port : PortCounters
  events : EventBlock
  /-- The model's own: how many free values have been drawn (log 16, log 10). -/
  freeCount : Nat
  /-- The model's own: the last tick made something due, and since then no command but the part's own steps was taken (log 2). -/
  atTick : Bool
  /-- The commands that wait, first in, first out. -/
  pending : List Instr
  deriving DecidableEq, Repr

/-- R4, profile 0: the configuration of stream t right after a device reset with PROF1 and PROF0 low. -/
def resetConfig (t : Tag) : StreamConfig :=
  { drainTag := ⟨t.val + 1, by omega⟩, streamClass := 2, window := 32, ackTimeout := 50, replayBudget := 4,
    highWatermark := 256, lowWatermark := 128, cellLimit := 384 }

/-- R162, R182: DEVICE-STARTED with AUTOOPEN low and profile 0. -/
def resetStartedRecord : EventRecord := { kind := .deviceStarted, detail := 0x0000#16 }

/-- The part right after a device reset with all straps low and CARRIER absent (R4, R5, R7, R39, R56, R103, R107, R117, R121,
R125, R131, R132, R135, R163, R169; log 12), and no command waiting. -/
def State.reset : State where
  phase := .running
  resetPin := .high
  carrierPin := false
  profile := 0
  autoopen := false
  streams := Vector.ofFn fun t => { config := resetConfig t, budget := (resetConfig t).replayBudget }
  drainMap := Vector.ofFn fun _ => none
  cells := []
  pool := { freeCells := List.range 8192, freeRecords := List.range 2048, level := .normal }
  sentPool := .normal
  flowPosition := 62
  feedRx := .awaitStart
  feedTx := none
  drainRx := .awaitStart
  drainTx := none
  carrier := .down
  credits := ⟨8, 4, 1⟩
  positions := ⟨62, 62, 62, 62⟩
  notes := {}
  slots := []
  resetPending := false
  settings := {}
  port := {}
  events := { queue := [resetStartedRecord], lost := 0 }
  freeCount := 0
  atTick := false
  pending := []

end Sys2Proof.Machine
end

