-- ==== Sys2Proof/Machine/Flags.lean ====
section
/-!
DEFINITION. The flags and judgements that follow from other state: timer moves (R88 to R91), carrier ticks (R102), flow
states and pending indications (R125, R126, R131), the pool state (R36), event enables (R165, R181), ATTN_N (R172), and
the codes of R179, R180 and R182.
-/

namespace Sys2Proof.Machine

/-! ### Acknowledgement timers (R88 to R91) -/

/-- R89: a load is RUNNING if the stream is not HELD, and FROZEN if it is HELD. -/
def Timer.load (ackTimeout : Nat) (held : Bool) : Timer := if held then .frozen ackTimeout else .running ackTimeout

/-- R91: a RUNNING timer becomes FROZEN with its count. One that is due has none left to keep: it expires first (log 3). -/
def Timer.freeze : Timer → Timer
  | .idle => .idle
  | .running n => .frozen n
  | .due => .due
  | .frozen n => .frozen n

/-- R91: a FROZEN timer becomes RUNNING with its count. -/
def Timer.unfreeze : Timer → Timer
  | .idle => .idle
  | .running n => .running n
  | .due => .due
  | .frozen n => .running n

/-- R88: the timer state is RUNNING. -/
def Timer.isRunning : Timer → Bool
  | .idle => false
  | .running _ => true
  | .due => true
  | .frozen _ => false

/-- R88: the remaining count. -/
def Timer.remaining : Timer → Nat
  | .idle => 0
  | .running n => n
  | .due => 0
  | .frozen n => n

/-- R180: the timer state's code. -/
def Timer.code : Timer → Byte
  | .idle => 0x00#8
  | .running _ => 0x01#8
  | .due => 0x01#8
  | .frozen _ => 0x02#8

/-- R90: a tick lowers a RUNNING timer's count by one; from 1 to 0 the timer is due (log 3). -/
def Timer.tick : Timer → Timer
  | .idle => .idle
  | .running n => if n ≤ 1 then .due else .running (n - 1)
  | .due => .due
  | .frozen n => .frozen n

/-! ### Carrier (R102) -/

/-- R102: a tick lowers the settle count by one; from 1 to 0 the carrier has settled (log 4). -/
def Carrier.tick : Carrier → Carrier
  | .down => .down
  | .settling n => if n ≤ 1 then .settled else .settling (n - 1)
  | .settled => .settled
  | .up => .up

/-- R102: the settle count. -/
def Carrier.settleCount : Carrier → Nat
  | .down => 0
  | .settling n => n
  | .settled => 0
  | .up => 0

/-- R179: the carrier state's code. -/
def Carrier.code : Carrier → Byte
  | .down => 0x00#8
  | .settling _ => 0x01#8
  | .settled => 0x01#8
  | .up => 0x02#8

/-! ### Flow states (R125, R126) -/

/-- R126: a stream's occupancy against its watermarks. -/
def FlowState.evaluate (f : FlowState) (occupancy high low : Nat) : FlowState :=
  match f with
  | .go => if high ≤ occupancy then .paused else .go
  | .paused => if occupancy ≤ low then .go else .paused

/-- R125: the pending indication is the flow state where it differs from the sent state. -/
def Stream.pendingFlow (x : Stream) : Option FlowState := if x.flow = x.sentFlow then none else some x.flow

/-- R179: the flow state's code. -/
def FlowState.code : FlowState → Byte
  | .go => 0x00#8
  | .paused => 0x01#8

/-- R180: the pending indication's code. -/
def pendingCode : Option FlowState → Byte
  | none => 0x00#8
  | some .paused => 0x01#8
  | some .go => 0x02#8

/-! ### Pool state (R36, R131) -/

/-- R36: the free-cell count against reserve and hysteresis. -/
def PoolLevel.evaluate (l : PoolLevel) (free reserve hysteresis : Nat) : PoolLevel :=
  match l with
  | .normal => if free < reserve then .low else .normal
  | .low => if reserve + hysteresis ≤ free then .normal else .low

/-- R131: the pending pool indication. -/
def State.pendingPool (s : State) : Option PoolLevel := if s.pool.level = s.sentPool then none else some s.pool.level

/-- R179: the pool state's code. -/
def PoolLevel.code : PoolLevel → Byte
  | .normal => 0x00#8
  | .low => 0x01#8

/-! ### Streams -/

/-- R180: the stream state's code. -/
def StreamState.code : StreamState → Byte
  | .closed => 0x00#8
  | .opened => 0x01#8
  | .draining => 0x02#8
  | .halted => 0x03#8

/-- The stream is OPEN or DRAINING: it transmits, times out and charges its budget (R12). -/
def StreamState.live : StreamState → Bool
  | .closed => false
  | .opened => true
  | .draining => true
  | .halted => false

/-- R179: a level or flag. -/
def flagCode (b : Bool) : Byte := if b then 0x01#8 else 0x00#8

/-! ### Notes -/

/-- R179: the slot state's code. -/
def NoteSlot.code : NoteSlot → Byte
  | .empty => 0x00#8
  | .waiting _ => 0x01#8
  | .sending _ _ => 0x02#8
  | .awaitingTaken _ => 0x03#8

/-- R143: the note number held, or 0 when the slot is EMPTY. -/
def NoteSlot.numberHeld : NoteSlot → Byte
  | .empty => 0x00#8
  | .waiting n => n.number
  | .sending n _ => n.number
  | .awaitingTaken n => n.number

/-! ### Statuses and events -/

/-- R178: the status codes. -/
def Status.code : Status → Byte
  | .ok => 0x00#8
  | .accepted => 0x01#8
  | .badCommand => 0x10#8
  | .badTag => 0x11#8
  | .badValue => 0x12#8
  | .badState => 0x13#8
  | .conflict => 0x14#8

/-- R182: the event kinds' values less one, which is the kind's bit in the event mask (R181). -/
def EventKind.maskBit : EventKind → Nat
  | .deviceStarted => 0
  | .streamHalted => 1
  | .streamClosed => 2
  | .timeoutReplay => 3
  | .overrun => 4
  | .ackAhead => 5
  | .replayAhead => 6
  | .strayReturn => 7
  | .carrierLost => 8
  | .carrierUp => 9
  | .poolLow => 10
  | .poolNormal => 11
  | .requestLost => 12

/-- R182: the event kind's value. -/
def EventKind.code (k : EventKind) : Byte := BitVec.ofNat 8 (k.maskBit + 1)

/-- R165, R181: the event mask enables a kind. -/
def Settings.enables (x : Settings) (k : EventKind) : Bool := x.eventMask.getLsbD k.maskBit

/-- R182: the cause of STREAM-HALTED. -/
inductive HaltCause where
  | timer
  | peerReplay
  deriving DecidableEq, Repr

/-- R182: the detail of STREAM-HALTED. -/
def HaltCause.detail : HaltCause → BitVec 16
  | .timer => 0x0001#16
  | .peerReplay => 0x0002#16

/-- R13: the outcome of STREAM-CLOSED. -/
inductive CloseOutcome where
  | drained
  | flushed
  | discarded
  deriving DecidableEq, Repr

/-- R182: the detail of STREAM-CLOSED. -/
def CloseOutcome.detail : CloseOutcome → BitVec 16
  | .drained => 0x0001#16
  | .flushed => 0x0002#16
  | .discarded => 0x0003#16

/-! ### ATTN_N (R172) -/

/-- R172, R162: the level of ATTN_N, true for high. Low while a stream is HALTED or the pool state is LOW; high otherwise, and
while RESET_N is low or the part is held in reset (log 24). -/
def State.attnN (s : State) : Bool :=
  s.phase == .inReset || s.resetPin != .high ||
    (s.streams.toList.all (fun x => x.state != .halted) && s.pool.level == .normal)

end Sys2Proof.Machine
end

