-- ==== Sys2Proof/Machine/Operands.lean ====
section
/-!
DEFINITION. What reaches the part over its links: lane symbols and undecodable bytes (R173), the check word (R174), header
validity on both links (R42, R121, R175), the integrity tests at a frame end (R51, R57, R121), and the parameters of
requests (R151, R152, R176, R177, R180, R181).
-/

namespace Sys2Proof.Machine

/-! ### Lane symbols (R173) -/

/-- R173: idle fill between the markers is not a byte. -/
def laneBytes : List LaneSymbol → List LaneByte
  | [] => []
  | .byte b :: rest => b :: laneBytes rest
  | .idle :: rest => laneBytes rest

/-- R173: the values of received bytes; each undecodable symbol takes the next free value, counted from n (log 16). -/
def laneValues : Nat → List LaneByte → List Byte
  | _, [] => []
  | n, .data b :: rest => b :: laneValues n rest
  | n, .undecodable :: rest => Config.undecodedByte n :: laneValues (n + 1) rest

/-- How many of the bytes could not be decoded. -/
def undecodedCount : List LaneByte → Nat
  | [] => 0
  | .data _ :: rest => undecodedCount rest
  | .undecodable :: rest => undecodedCount rest + 1

/-- R173: how many of the bytes of these symbols could not be decoded. -/
def undecodedIn (symbols : List LaneSymbol) : Nat := undecodedCount (laneBytes symbols)

/-- R173: a two-byte field, most significant byte first. -/
def bigEndian (high low : Byte) : BitVec 16 := high ++ low

/-- R41, R173: the header that six received bytes spell. -/
def headerOf : List Byte → Header
  | kind :: tag :: serialHigh :: serialLow :: lengthHigh :: lengthLow :: _ =>
      { kind := kind, tag := tag, serial := bigEndian serialHigh serialLow, length := bigEndian lengthHigh lengthLow }
  | _ => { kind := 0#8, tag := 0#8, serial := 0#16, length := 0#16 }

/-! ### Check word (R174) -/

/-- R174: the generator. -/
def checkGenerator : CheckWord := 0x04C11DB7#32

/-- R174: the initial register. -/
def checkInitial : CheckWord := 0xFFFFFFFF#32

/-- R174: the register after one input bit. -/
def checkBit (register : CheckWord) (bit : Bool) : CheckWord :=
  if (register.msb ^^ bit) = true then (register <<< 1) ^^^ checkGenerator else register <<< 1

/-- R174: the register after one byte, taken least significant bit first. -/
def checkByte (register : CheckWord) (b : Byte) : CheckWord :=
  (List.range 8).foldl (fun r i => checkBit r (b.getLsbD i)) register

/-- R174: the running check word after some bytes. -/
def checkBytes (register : CheckWord) (bytes : List Byte) : CheckWord := bytes.foldl checkByte register

/-- R174: the register reflected. -/
def checkReflect (register : CheckWord) : CheckWord :=
  (List.range 32).foldl (fun acc i => (acc <<< 1) ||| (if register.getLsbD i then 1#32 else 0#32)) 0#32

/-- R174: the check word that a register gives. -/
def checkOutput (register : CheckWord) : CheckWord := ~~~(checkReflect register)

/-- R173, R174: the four bytes of a check word as sent, least significant byte first. -/
def checkWordBytes (c : CheckWord) : List Byte :=
  [c.extractLsb' 0 8, c.extractLsb' 8 8, c.extractLsb' 16 8, c.extractLsb' 24 8]

/-- R174: the check word sent after the given bytes of a frame. -/
def frameCheck (bytes : List Byte) : List Byte := checkWordBytes (checkOutput (checkBytes checkInitial bytes))

/-! ### Kinds (R175) -/

/-- R175: KIND of DATA. -/
def kindData : Byte := 0x01#8
/-- R175: KIND of ACK. -/
def kindAck : Byte := 0x11#8
/-- R175: KIND of REPLAY. -/
def kindReplay : Byte := 0x12#8
/-- R175: KIND of HOLD. -/
def kindHold : Byte := 0x13#8
/-- R175: KIND of RESUME. -/
def kindResume : Byte := 0x14#8
/-- R175: KIND of NOTE. -/
def kindNote : Byte := 0x21#8
/-- R175: KIND of NOTE-TAKEN. -/
def kindNoteTaken : Byte := 0x22#8
/-- R175: KIND of NOTE-DONE. -/
def kindNoteDone : Byte := 0x23#8
/-- R175: KIND of NOTE-REFUSED. -/
def kindNoteRefused : Byte := 0x24#8
/-- R175: KIND of REQUEST. -/
def kindRequest : Byte := 0x31#8
/-- R175: KIND of RESPONSE. -/
def kindResponse : Byte := 0x32#8
/-- R175: KIND of EVENT. -/
def kindEvent : Byte := 0x33#8
/-- R175: KIND of FLOW. -/
def kindFlow : Byte := 0x34#8

/-! ### Header validity (R42, R121) -/

/-- R42, R121: SERIAL has its upper four bits clear. -/
def serialInRange (h : Header) : Bool := h.serial.toNat < 4096

/-- LENGTH lies in a range. -/
def lengthIn (h : Header) (low high : Nat) : Bool := low ≤ h.length.toNat && h.length.toNat ≤ high

/-- What a valid feed header asks for (R43). -/
inductive FeedKind where
  | data (stream : Tag)
  | staged
  deriving DecidableEq, Repr

/-- R42, R175: what a feed header asks for; `none` if it is malformed. -/
def feedKind? (h : Header) : Option FeedKind :=
  if serialInRange h = false then none
  else if h.kind = kindData then
    if lengthIn h 1 Config.largestFrame then (Tag.ofNumber? h.tag.toNat).map FeedKind.data else none
  else if h.kind = kindRequest ∧ h.tag = 0#8 ∧ lengthIn h 3 64 then some .staged
  else if h.kind = kindNote ∧ h.tag = 0#8 ∧ lengthIn h 1 65 then some .staged
  else if h.kind = kindNoteTaken ∧ h.tag = 0#8 ∧ lengthIn h 1 1 then some .staged
  else none

/-- R121, R175: a drain-link header is valid. -/
def drainHeaderValid (h : Header) : Bool :=
  serialInRange h &&
    (if h.kind = kindAck ∨ h.kind = kindReplay then h.tag != 255#8 && lengthIn h 0 0
     else if h.kind = kindHold ∨ h.kind = kindResume then lengthIn h 0 0
     else if h.kind = kindNote then h.tag == 0#8 && lengthIn h 1 65
     else if h.kind = kindNoteTaken then h.tag == 0#8 && lengthIn h 1 1
     else false)

/-! ### Frame ends (R50, R51, R57, R121) -/

/-- The integrity tests at an end marker. -/
inductive FrameVerdict where
  /-- The byte count differs from LENGTH. -/
  | countMismatch
  /-- The check word does not match. -/
  | checkMismatch
  | good
  deriving DecidableEq, Repr

/-- R50: the byte count is the number of bytes between the header and the last four; a frame with fewer than four bytes
has no check word and is a mismatch. R51, R174: then the check word. R173: an undecodable byte fails the check. -/
def frameVerdict (running : CheckWord) (damaged : Bool) (length : Nat) (values : List Byte) : FrameVerdict :=
  if values.length ≠ length + 4 then .countMismatch
  else if damaged = true then .checkMismatch
  else if checkWordBytes (checkOutput (checkBytes running (values.take length))) ≠ values.drop length then .checkMismatch
  else .good

/-- R50: the payload bytes of a frame, those before its last four, up to the declared length. -/
def framePayload (length : Nat) (values : List Byte) : List Byte := (values.take (values.length - 4)).take length

/-- Why the return receiver drops a frame (R121). -/
inductive DropCause where
  | malformed
  | checkError
  deriving DecidableEq, Repr

/-- R121: why a drain-link frame of these bytes, whose header has passed its tests if it is complete, is dropped at its end marker;
`none` if it is routed. -/
def dropCause? (received : List Byte) (damaged : Bool) : Option DropCause :=
  if received.length < 6 then some .malformed
  else
    match frameVerdict (checkBytes checkInitial (received.take 6)) damaged (headerOf received).length.toNat (received.drop 6) with
    | .countMismatch => some .malformed
    | .checkMismatch => some .checkError
    | .good => none

/-! ### Requests (R151, R152, R176, R177) -/

/-- R176: the request that a REQUEST payload spells; the feed receiver refuses one of fewer than three bytes (R42). -/
def requestOf : List Byte → Request
  | number :: command :: target :: parameters =>
      { number := number, command := command, target := target, parameters := parameters }
  | _ => { number := 0#8, command := 0#8, target := 0#8, parameters := [] }

/-- R176: command values. -/
def commandIdentify : Byte := 0x01#8
/-- R176. -/
def commandReadSettings : Byte := 0x02#8
/-- R176. -/
def commandWriteSettings : Byte := 0x03#8
/-- R176. -/
def commandReadStream : Byte := 0x04#8
/-- R176. -/
def commandWriteStream : Byte := 0x05#8
/-- R176. -/
def commandOpenStream : Byte := 0x06#8
/-- R176. -/
def commandCloseStream : Byte := 0x07#8
/-- R176. -/
def commandFlushStream : Byte := 0x08#8
/-- R176. -/
def commandRestartStream : Byte := 0x09#8
/-- R176. -/
def commandReadCounters : Byte := 0x0A#8
/-- R176. -/
def commandClearNote : Byte := 0x0B#8
/-- R176. -/
def commandDiscardAll : Byte := 0x0C#8
/-- R176. -/
def commandResetDevice : Byte := 0x0D#8

/-- R176: the command values 01h to 0Dh are known. -/
def commandKnown (command : Byte) : Bool := 1 ≤ command.toNat && command.toNat ≤ 13

/-- R151: the target tag of a stream command. -/
def streamTarget? (target : Byte) : Option Tag := Tag.ofNumber? target.toNat

/-- R177, R152: the optional serial of OPEN-STREAM and FLUSH-STREAM; the outer `none` is BAD-VALUE. -/
def optionalSerial? : List Byte → Option (Option Serial)
  | [] => some none
  | [high, low] =>
      if (bigEndian high low).toNat < 4096 then some (some (BitVec.ofNat 12 (bigEndian high low).toNat)) else none
  | _ => none

/-- R177: a one-byte parameter of value 00h or 01h. -/
def flagParameter? : List Byte → Option Bool
  | [b] => if b = 0#8 then some false else if b = 1#8 then some true else none
  | _ => none

/-- R2: the ranges of the configuration fields and the two relations between them, on received numbers. -/
def configInRange (drainTag streamClass window ackTimeout budget high low limit : Nat) : Bool :=
  drainTag < 255 && streamClass < 4 && (1 ≤ window && window ≤ 256) && (1 ≤ ackTimeout && ackTimeout ≤ 4095) &&
    budget ≤ 15 && (1 ≤ high && high ≤ 8192) && low ≤ 8191 && (1 ≤ limit && limit ≤ 8192) && low < high && high ≤ limit

/-- R180: the configuration that numbers spell, where R2 admits them. -/
def configFrom? (drainTag streamClass window ackTimeout budget high low limit : Nat) : Option StreamConfig :=
  if configInRange drainTag streamClass window ackTimeout budget high low limit = false then none
  else if h : drainTag < 255 ∧ streamClass < 4 then
    some { drainTag := ⟨drainTag, h.1⟩, streamClass := ⟨streamClass, h.2⟩, window := window, ackTimeout := ackTimeout,
           replayBudget := budget, highWatermark := high, lowWatermark := low, cellLimit := limit }
  else none

/-- R180, R177: the stream configuration block, 13 bytes; `none` is BAD-VALUE. -/
def configBlock? : List Byte → Option StreamConfig
  | [drainTag, streamClass, w1, w0, a1, a0, budget, h1, h0, l1, l0, c1, c0] =>
      configFrom? drainTag.toNat streamClass.toNat (bigEndian w1 w0).toNat (bigEndian a1 a0).toNat budget.toNat
        (bigEndian h1 h0).toNat (bigEndian l1 l0).toNat (bigEndian c1 c0).toNat
  | _ => none

/-- R153, R155, R181: a settings record is in range, its mask enables DEVICE-STARTED and names no unknown kind. -/
def settingsInRange (x : Settings) : Bool :=
  x.reserve ≤ 4096 && x.hysteresis ≤ 1024 && (1 ≤ x.weights.class1 && x.weights.class1 ≤ 16) &&
    (1 ≤ x.weights.class2 && x.weights.class2 ≤ 16) && (1 ≤ x.weights.class3 && x.weights.class3 ≤ 16) &&
    x.eventMask.getLsbD 0 && x.eventMask.toNat < 8192 && (1 ≤ x.settleTime && x.settleTime ≤ 255)

/-- R181, R177: the settings record, 10 bytes; `none` is BAD-VALUE. -/
def settingsRecord? : List Byte → Option Settings
  | [r1, r0, h1, h0, w1, w2, w3, m1, m0, settle] =>
      let x : Settings :=
        { reserve := (bigEndian r1 r0).toNat, hysteresis := (bigEndian h1 h0).toNat,
          weights := ⟨w1.toNat, w2.toNat, w3.toNat⟩, eventMask := bigEndian m1 m0, settleTime := settle.toNat }
      if settingsInRange x = true then some x else none
  | _ => none

/-- R2: a stream's configuration satisfies the ranges and relations. -/
def StreamConfig.inRange (c : StreamConfig) : Bool :=
  configInRange c.drainTag.val c.streamClass.val c.window c.ackTimeout c.replayBudget c.highWatermark c.lowWatermark
    c.cellLimit

end Sys2Proof.Machine
end

