-- ==== Sys2Proof/Machine/Ops.lean ====
section
/-!
DEFINITION. The operations that the commands share: cell memory (R25, R28), stream records and the drain-tag map (R1, R7),
events (R164 to R166), pool and release (R25 to R39, R80), flow evaluation (R127), stream state changes (R10 to R16),
timers and budget (R89, R93, R94), returns (R68 to R79), the choices of the two arbiters (R112 to R117, R132, R170), notes (R138 to R142),
request slots (R145 to R148) and device reset (R162).
-/

namespace Sys2Proof.Machine

/-- What a command answers. -/
abbrev Result := Host.Outcome State Fault Refusal

/-- R162, R171, R184: the part runs and RESET_N is high: only then does it take input, follow CARRIER, send and decide. -/
abbrev State.Awake (s : State) : Prop := s.phase = .running ∧ s.resetPin = .high

/-! ### Cell memory (R25, R28) -/

/-- The byte at an address; an unlisted address reads 00h (log 13). -/
def Memory.read : Memory → Nat → Byte
  | [], _ => 0#8
  | (k, v) :: rest, a => if k = a then v else Memory.read rest a

/-- The memory with one byte written, in canonical form. -/
def Memory.write : Memory → Nat → Byte → Memory
  | [], a, b => if b = 0#8 then [] else [(a, b)]
  | (k, v) :: rest, a, b =>
      if a < k then (if b = 0#8 then (k, v) :: rest else (a, b) :: (k, v) :: rest)
      else if a = k then (if b = 0#8 then rest else (a, b) :: rest)
      else (k, v) :: Memory.write rest a b

/-- The canonical form: addresses strictly rising and no entry 00h. -/
def Memory.wf : Memory → Bool
  | [] => true
  | (k, v) :: rest => v != 0#8 && rest.all (fun c => decide (k < c.1)) && Memory.wf rest

/-- Bytes written at consecutive addresses. -/
def Memory.writeBytes : Memory → Nat → List Byte → Memory
  | m, _, [] => m
  | m, a, b :: rest => Memory.writeBytes (m.write a b) (a + 1) rest

/-- n bytes read at consecutive addresses. -/
def Memory.readBytes (m : Memory) (a n : Nat) : List Byte := (List.range n).map fun i => m.read (a + i)

/-- R28: payload bytes 1 to 64 go into the first cell of the chain, bytes 65 to 128 into the second, and so on. -/
def Memory.writeChain : Memory → List Nat → List Byte → Memory
  | m, [], _ => m
  | m, c :: rest, bytes =>
      Memory.writeChain (m.writeBytes (Config.cellSize * c) (bytes.take Config.cellSize)) rest (bytes.drop Config.cellSize)

/-- R28: exactly `length` bytes of a chain, in the same order. -/
def Memory.readChain (m : Memory) (chain : List Nat) (length : Nat) : List Byte :=
  (chain.flatMap fun c => m.readBytes (Config.cellSize * c) Config.cellSize).take length

/-! ### Streams and the drain-tag map (R1, R7) -/

/-- The record of a stream. -/
def State.stream (s : State) (t : Tag) : Stream := s.streams[t.val]'t.isLt

/-- The state with the record of one stream replaced. -/
def State.setStream (s : State) (t : Tag) (x : Stream) : State := { s with streams := s.streams.set t.val x t.isLt }

/-- The state with one stream's record changed by a function. -/
def State.updateStream (s : State) (t : Tag) (f : Stream → Stream) : State := s.setStream t (f (s.stream t))

/-- The state with every stream's record changed by a function. -/
def State.mapStreams (s : State) (f : Stream → Stream) : State :=
  { s with streams := Vector.ofFn fun t => f (s.stream t) }

/-- The entry of the drain-tag map for a drain tag (R7). -/
def State.mapped (s : State) (d : DrainTag) : Option Tag := s.drainMap[d.val]'d.isLt

/-- The drain-tag map with one entry replaced. -/
def State.setMapped (s : State) (d : DrainTag) (entry : Option Tag) : State :=
  { s with drainMap := s.drainMap.set d.val entry d.isLt }

/-- R9: the stream behind a received drain tag; 255 has no entry. -/
def State.streamOf (s : State) (d : Byte) : Option Tag :=
  if h : d.toNat < 255 then s.mapped ⟨d.toNat, h⟩ else none

/-- R61: the in-window count, the distance from head to cursor. -/
def Stream.inWindow (x : Stream) : Nat := Serial.distance x.head x.cursor

/-- Section 4.3: W, the distance from head to reach. -/
def Stream.started (x : Stream) : Nat := Serial.distance x.head x.reach

/-- R28: the cells of a frame of the given length. -/
def cellsFor (length : Nat) : Nat := (length + 63) / 64

/-- The cells that records hold. -/
def cellsOf (records : List FrameRecord) : Nat := (records.map fun r => r.chain.length).sum

/-! ### Codes and small fields of event records -/

/-- A stream tag as one byte. -/
def Tag.byte (t : Tag) : Byte := BitVec.ofNat 8 (t.val + 1)

/-- A drain tag as one byte. -/
def DrainTag.byte (d : DrainTag) : Byte := BitVec.ofNat 8 d.val

/-- A serial as a two-byte field. -/
def Serial.field (x : Serial) : BitVec 16 := x.setWidth 16

/-! ### Events (R164 to R167) -/

/-- R166: an enabled event joins the queue, or is lost when the queue is full. -/
def EventBlock.store (b : EventBlock) (e : EventRecord) : EventBlock :=
  if b.queue.length < Config.eventQueueSize then { b with queue := b.queue ++ [e] }
  else { b with lost := min (b.lost + 1) Config.lostMax }

/-- R165: an event is recorded if its kind is enabled, and leaves no trace if it is masked. -/
def State.raise (s : State) (e : EventRecord) : State :=
  if s.settings.enables e.kind then { s with events := s.events.store e } else s

/-! ### Counters (R3, R158) -/

/-- R59: feed malformed. -/
def State.countFeedMalformed (s : State) : State :=
  { s with port := { s.port with feedMalformed := s.port.feedMalformed + 1#32 } }

/-- R59: feed check errors. -/
def State.countFeedCheckError (s : State) : State :=
  { s with port := { s.port with feedCheckErrors := s.port.feedCheckErrors + 1#32 } }

/-- R124: drain malformed. -/
def State.countDrainMalformed (s : State) : State :=
  { s with port := { s.port with drainMalformed := s.port.drainMalformed + 1#32 } }

/-- R124: drain check errors. -/
def State.countDrainCheckError (s : State) : State :=
  { s with port := { s.port with drainCheckErrors := s.port.drainCheckErrors + 1#32 } }

/-- R124: drain stray. -/
def State.countDrainStray (s : State) : State :=
  { s with port := { s.port with drainStray := s.port.drainStray + 1#32 } }

/-- R138: note-stray. -/
def State.countNoteStray (s : State) : State :=
  { s with port := { s.port with noteStray := s.port.noteStray + 1#32 } }

/-- R146: requests-lost. -/
def State.countRequestLost (s : State) : State :=
  { s with port := { s.port with requestsLost := s.port.requestsLost + 1#32 } }

/-- One stream's counters changed (R3). -/
def State.countStream (s : State) (t : Tag) (f : StreamCounters → StreamCounters) : State :=
  s.updateStream t fun x => { x with counters := f x.counters }

/-- R173: free values drawn for undecodable symbols (log 16). -/
def State.drawFree (s : State) (n : Nat) : State := { s with freeCount := s.freeCount + n }

/-- R173: the bytes that these symbols bring; one that cannot be decoded takes the next free value (log 16). -/
def State.arrived (s : State) (symbols : List LaneSymbol) : List Byte := laneValues s.freeCount (laneBytes symbols)

/-- The feed receiver enters a state (R40). -/
def State.setFeedRx (s : State) (r : FeedReceiver) : State := { s with feedRx := r }

/-- The return receiver enters a state (R121). -/
def State.setDrainRx (s : State) (r : DrainReceiver) : State := { s with drainRx := r }

/-- The feed transmitter takes a frame, or is free (R171). -/
def State.setFeedTx (s : State) (f : Option FeedFrame) : State := { s with feedTx := f }

/-! ### Pool (R29, R30, R33, R34, R36) -/

/-- R33: records returned to the pool, oldest first: their cells in chain order to the back of the free-cell list, the
records to the back of the free-record list. -/
def Pool.giveBack (p : Pool) (records : List FrameRecord) : Pool :=
  { p with
    freeCells := p.freeCells ++ records.flatMap (fun r => r.chain)
    freeRecords := p.freeRecords ++ records.map (fun r => r.number) }

/-- R36, R38: the pool state against the settings, with the event of a change. The flow block's pending indication and
ATTN_N follow from the pool state. -/
def State.evaluatePool (s : State) : State :=
  let after := s.pool.level.evaluate s.pool.freeCells.length s.settings.reserve s.settings.hysteresis
  if after = s.pool.level then s
  else
    { s with pool := { s.pool with level := after } }.raise
      { kind := (match after with | .low => .poolLow | .normal => .poolNormal)
        detail := BitVec.ofNat 16 s.pool.freeCells.length }

/-- R36: the evaluation after a step that found `before` free cells; a step that leaves the count as it was makes none. -/
def State.evaluatePoolFrom (s : State) (before : Nat) : State :=
  if s.pool.freeCells.length = before then s else s.evaluatePool

/-! ### Flow (R126, R127) -/

/-- R126: the flow block evaluates a stream. -/
def State.evaluateFlow (s : State) (t : Tag) : State :=
  s.updateStream t fun x =>
    { x with flow := x.flow.evaluate x.occupancy x.config.highWatermark x.config.lowWatermark }

/-- R127, R129: the evaluation in a step that found occupancy `before`; none if it did not change or the stream is CLOSED. -/
def State.evaluateFlowFrom (s : State) (t : Tag) (before : Nat) : State :=
  if (s.stream t).occupancy = before ∨ (s.stream t).state = .closed then s else s.evaluateFlow t

/-! ### Reservation and its return (R29, R30) -/

/-- R29: the first n cells and the first record leave the free lists for a frame of stream t; n is added to its occupancy.
The record is `none` where no record is free, which R48 rules out. -/
def State.reserve (s : State) (t : Tag) (length : Nat) : Option (FrameRecord × State) :=
  match s.pool.freeRecords with
  | [] => none
  | number :: rest =>
      let n := cellsFor length
      let record : FrameRecord :=
        { number := number, stream := t, serial := none, length := length, chain := s.pool.freeCells.take n }
      let before := (s.stream t).occupancy
      let free := s.pool.freeCells.length
      let s := { s with pool := { s.pool with freeCells := s.pool.freeCells.drop n, freeRecords := rest } }
      let s := s.updateStream t fun x => { x with occupancy := x.occupancy + n }
      some (record, (s.evaluateFlowFrom t before).evaluatePoolFrom free)

/-- R30: a FILLING record whose frame end is refused goes back: cells and record to the lists, its cells out of the occupancy
of the stream it names. -/
def State.returnReservation (s : State) (record : FrameRecord) : State :=
  let before := (s.stream record.stream).occupancy
  let free := s.pool.freeCells.length
  let s := { s with pool := s.pool.giveBack [record] }
  let s := s.updateStream record.stream fun x => { x with occupancy := x.occupancy - record.chain.length }
  (s.evaluateFlowFrom record.stream before).evaluatePoolFrom free

/-- R31, R51: an accepted frame joins its stream's queue at the tail. -/
def Stream.append (x : Stream) (record : FrameRecord) : Stream :=
  { x with
    queue := x.queue ++ [{ record with serial := some x.tail }]
    tail := x.tail + 1#12
    overrunReported := false
    counters := { x.counters with admitted := x.counters.admitted + 1#32 } }

/-! ### Release (R32 to R34, R80) -/

/-- R32: the drain transmitter is sending the frame of this record number. -/
def DrainTransmission.sends (tx : DrainTransmission) (number : Nat) : Bool :=
  match tx with
  | .data record _ _ _ => record.number == number
  | .note _ => false
  | .noteDone _ _ => false
  | .noteRefused _ _ => false

/-- The frame of this record number is in transmission on the drain link. -/
def State.sending (s : State) (number : Nat) : Bool :=
  match s.drainTx with
  | some tx => tx.sends number
  | none => false

/-- R34: the still-resident mark is cleared. -/
def DrainTransmission.unmark : DrainTransmission → DrainTransmission
  | .data record _ d x => .data record false d x
  | .note n => .note n
  | .noteDone sent tally => .noteDone sent tally
  | .noteRefused sent tally => .noteRefused sent tally

/-- R33, R34: released records go back to the pool at once, oldest first, but for the frame in transmission, which becomes
DEFERRED. -/
def State.handBack (s : State) (released : List FrameRecord) : State :=
  { s with
    pool := s.pool.giveBack (released.filter fun r => !s.sending r.number)
    drainTx := if released.any (fun r => s.sending r.number) then s.drainTx.map DrainTransmission.unmark else s.drainTx }

/-- R80: the first k frames of a stream's queue are released: they leave the queue and the occupancy, head moves past them, and
each goes back to the pool or becomes DEFERRED. The evaluations of pool and flow follow at the end of the step. -/
def State.release (s : State) (t : Tag) (k : Nat) : State :=
  let gone := (s.stream t).queue.take k
  (s.updateStream t fun x =>
      { x with
        queue := x.queue.drop k
        occupancy := x.occupancy - cellsOf gone
        head := x.head + BitVec.ofNat 12 gone.length }).handBack gone

/-- R80: every resident frame of a stream is released. -/
def State.releaseAll (s : State) (t : Tag) : State := s.release t (s.stream t).queue.length

/-- R82, R83, R85: head, cursor, reach and tail brought to one serial, with the timer IDLE. -/
def Stream.collapse (x : Stream) (serial : Serial) : Stream :=
  { x with head := serial, cursor := serial, reach := serial, tail := serial, timer := .idle }

/-! ### Stream state changes (R10 to R16) -/

/-- R10: the record of a stream that opens at a serial, before the evaluation of its flow state. -/
def Stream.opening (x : Stream) (serial : Serial) : Stream :=
  { x.collapse serial with
    state := .opened, budget := x.config.replayBudget, overrunReported := false, flow := .go }

/-- R10: a stream goes from CLOSED to OPEN with a start serial. -/
def State.openAt (s : State) (t : Tag) (serial : Serial) : State :=
  ((s.updateStream t fun x => x.opening serial).setMapped (s.stream t).config.drainTag (some t)).evaluateFlow t

/-- R11: the record of a stream that enters CLOSED. -/
def Stream.closing (x : Stream) : Stream :=
  { x with state := .closed, held := false, timer := .idle, closeRequested := false, flow := .go }

/-- R11: a stream enters CLOSED. -/
def State.enterClosed (s : State) (t : Tag) : State :=
  (s.updateStream t Stream.closing).setMapped (s.stream t).config.drainTag none

/-- R13: a DRAINING stream whose last frame was released enters CLOSED and raises STREAM-CLOSED. -/
def State.closeDrained (s : State) (t : Tag) (outcome : CloseOutcome) : State :=
  (s.enterClosed t).raise
    { kind := .streamClosed, streamTag := Tag.byte t, drainTag := DrainTag.byte (s.stream t).config.drainTag
      serial := Serial.field (s.stream t).tail, detail := outcome.detail }

/-- R81, R13: a DRAINING stream without resident frames closes; any other stream stays as it is. -/
def State.closeIfDrained (s : State) (t : Tag) (outcome : CloseOutcome) : State :=
  if (s.stream t).state = .draining ∧ (s.stream t).queue = [] then s.closeDrained t outcome else s

/-- R14: a stream enters HALTED. -/
def State.halt (s : State) (t : Tag) (cause : HaltCause) : State :=
  (s.updateStream t fun x => { x with state := .halted, timer := .idle, closeRequested := false }).raise
    { kind := .streamHalted, streamTag := Tag.byte t, drainTag := DrainTag.byte (s.stream t).config.drainTag
      serial := Serial.field (s.stream t).head, detail := cause.detail }

/-- R16: a HALTED stream returns to OPEN. -/
def Stream.reopen (x : Stream) : Stream :=
  { x with state := .opened, budget := x.config.replayBudget, timer := .idle }

/-! ### Timers and budget (R89, R93, R94) -/

/-- R89: the timer is loaded with the ack timeout. -/
def Stream.loadTimer (x : Stream) : Stream := { x with timer := Timer.load x.config.ackTimeout x.held }

/-- R73, R78: progress on an OPEN or DRAINING stream reloads the budget and sets the timer by the in-window count. -/
def Stream.progress (x : Stream) : Stream :=
  { x with
    budget := x.config.replayBudget
    timer := if 0 < x.inWindow then Timer.load x.config.ackTimeout x.held else .idle }

/-- R66: a rewind to head with the timer IDLE. -/
def Stream.rewind (x : Stream) : Stream := { x with cursor := x.head, timer := .idle }

/-- R93, R94: the expiry of a stream's timer. -/
def State.expire (s : State) (t : Tag) : State :=
  let s := s.countStream t fun c => { c with timeouts := c.timeouts + 1#32 }
  let x := s.stream t
  if 0 < x.budget then
    (s.setStream t { x.rewind with budget := x.budget - 1 }).raise
      { kind := .timeoutReplay, streamTag := Tag.byte t, drainTag := DrainTag.byte x.config.drainTag
        serial := Serial.field x.head, detail := BitVec.ofNat 16 (x.budget - 1) }
  else s.halt t .timer

/-! ### Returns from the consumer (R68 to R79, R118, R123) -/

/-- R68, R69: what a returned serial is against head and reach. -/
inductive ReturnClass where
  | taken
  | stale
  | ahead
  deriving DecidableEq, Repr

/-- R68: the class of an ACK. -/
def Stream.classifyAck (x : Stream) (serial : Serial) : ReturnClass :=
  if Serial.distance x.head serial < x.started then .taken
  else if 2048 ≤ Serial.distance x.head serial then .stale
  else .ahead

/-- R69: the class of a REPLAY. -/
def Stream.classifyReplay (x : Stream) (serial : Serial) : ReturnClass :=
  if Serial.distance x.head serial ≤ x.started then .taken
  else if 2048 ≤ Serial.distance x.head serial then .stale
  else .ahead

/-- R70: a stale return is counted. -/
def State.staleReturn (s : State) (t : Tag) : State :=
  s.countStream t fun c => { c with staleReturns := c.staleReturns + 1#32 }

/-- R71: an ahead return raises its event. -/
def State.aheadReturn (s : State) (t : Tag) (kind : EventKind) (drainTag : Byte) (serial : Serial) : State :=
  s.raise { kind := kind, streamTag := Tag.byte t, drainTag := drainTag, serial := Serial.field serial
            detail := Serial.field (s.stream t).reach }

/-- R123: a stray return is counted and raises STRAY-RETURN. -/
def State.strayReturn (s : State) (kind drainTag : Byte) (serial : BitVec 16) : State :=
  s.countDrainStray.raise { kind := .strayReturn, drainTag := drainTag, serial := serial, detail := kind.setWidth 16 }

/-- R80: the end of a release step on one stream: the close of a drained stream, then the flow evaluation of the stream, then
the pool's (R167: STREAM-CLOSED is queued before the pool event). -/
def State.finishRelease (s : State) (t : Tag) (outcome : CloseOutcome) (occupancy free : Nat) : State :=
  ((s.closeIfDrained t outcome).evaluateFlowFrom t occupancy).evaluatePoolFrom free

/-- R72: the cursor is pulled to the new head where it lay before it, seen from the old head. -/
def Stream.pullCursor (x : Stream) (oldHead : Serial) : Stream :=
  if Serial.distance oldHead x.cursor < Serial.distance oldHead x.head then { x with cursor := x.head } else x

/-- R72, R73: an ACK that is progress. -/
def State.ackProgress (s : State) (t : Tag) (serial : Serial) : State :=
  let x := s.stream t
  let m := Serial.distance x.head serial
  let released := s.release t (m + 1)
  let moved := released.updateStream t fun y => ({ y with head := serial + 1#12 } : Stream).pullCursor x.head
  let settled := moved.updateStream t fun y => if y.state.live then y.progress else y
  settled.finishRelease t .drained x.occupancy s.pool.freeCells.length

/-- R76, R78: an accepted REPLAY that releases frames. -/
def State.replayRelease (s : State) (t : Tag) (serial : Serial) : State :=
  let x := s.stream t
  let released := s.release t (Serial.distance x.head serial)
  let moved := released.updateStream t fun y => { y with head := serial, cursor := serial }
  let settled := moved.updateStream t fun y =>
    if y.state.live then { y with budget := y.config.replayBudget, timer := .idle } else y
  settled.finishRelease t .drained x.occupancy s.pool.freeCells.length

/-- R77, R78: an accepted REPLAY that names head. -/
def State.replayAtHead (s : State) (t : Tag) (serial : Serial) : State :=
  let x := s.stream t
  if x.cursor = serial then (if x.state.live then s.setStream t { x with timer := .idle } else s)
  else if x.state.live then
    (if 0 < x.budget then s.setStream t { x with budget := x.budget - 1, cursor := serial, timer := .idle }
     else s.halt t .peerReplay)
  else s.setStream t { x with cursor := serial }

/-- R69, R76 to R78: an accepted REPLAY. -/
def State.replayAccepted (s : State) (t : Tag) (serial : Serial) : State :=
  let counted := s.countStream t fun c => { c with peerReplays := c.peerReplays + 1#32 }
  if Serial.distance (s.stream t).head serial = 0 then counted.replayAtHead t serial
  else counted.replayRelease t serial

/-- R91, R118: HOLD sets a stream's HELD flag. -/
def Stream.hold (x : Stream) : Stream := if x.held then x else { x with held := true, timer := x.timer.freeze }

/-- R91, R118: RESUME clears a stream's HELD flag; taken only while the carrier is UP (R119). -/
def Stream.resume (x : Stream) : Stream := if x.held then { x with held := false, timer := x.timer.unfreeze } else x

/-! ### Deferred return and the end of drain transmissions (R34, R64, R110, R111) -/

/-- R34: the cells and record of a frame that is neither resident nor in transmission return to the pool. -/
def State.deferredReturn (s : State) (record : FrameRecord) : State :=
  ({ s with pool := s.pool.giveBack [record] }).evaluatePoolFrom s.pool.freeCells.length

/-- R64: the completion of a resident frame's transmission loads its stream's timer if all conditions hold. -/
def Stream.completed (x : Stream) : Stream :=
  if x.state.live && decide (0 < x.inWindow) && x.timer == .idle then x.loadTimer else x

/-- R136, R143: the forward or back slot at the completion of its note's transmission. -/
def NoteSlot.complete : NoteSlot → NoteSlot
  | .empty => .empty
  | .waiting n => .waiting n
  | .sending n clearRequested => if clearRequested then .empty else .awaitingTaken n
  | .awaitingTaken n => .awaitingTaken n

/-- R142: the forward slot at carrier loss. -/
def NoteSlot.carrierLost : NoteSlot → NoteSlot
  | .empty => .empty
  | .waiting n => .waiting n
  | .sending n clearRequested => if clearRequested then .empty else .waiting n
  | .awaitingTaken n => .waiting n

/-! ### Notes (R138, R139, R143) -/

/-- R139: a record after one more event of its kind. -/
def bumpIndication (r : Option Indication) (number : Byte) : Indication :=
  match r with
  | none => { number := number, count := 1 }
  | some i => { number := number, count := min (i.count + 1) Config.indicationMax }

/-- R140: the tally of a NOTE-DONE toward the consumer that is in transmission. -/
def DrainTransmission.tallyDone (tx : DrainTransmission) (number : Byte) : DrainTransmission :=
  match tx with
  | .noteDone sent tally => .noteDone sent (some (bumpIndication tally number))
  | .noteRefused sent tally => .noteRefused sent tally
  | .note n => .note n
  | .data record resident d x => .data record resident d x

/-- R140: the tally of a NOTE-REFUSED toward the consumer that is in transmission. -/
def DrainTransmission.tallyRefused (tx : DrainTransmission) (number : Byte) : DrainTransmission :=
  match tx with
  | .noteRefused sent tally => .noteRefused sent (some (bumpIndication tally number))
  | .noteDone sent tally => .noteDone sent tally
  | .note n => .note n
  | .data record resident d x => .data record resident d x

/-- R139: NOTE-DONE toward the producer. -/
def State.noteDoneToProducer (s : State) (number : Byte) : State :=
  { s with notes := { s.notes with doneToProducer := some (bumpIndication s.notes.doneToProducer number) } }

/-- R139: NOTE-REFUSED toward the producer. -/
def State.noteRefusedToProducer (s : State) (number : Byte) : State :=
  { s with notes := { s.notes with refusedToProducer := some (bumpIndication s.notes.refusedToProducer number) } }

/-- R139, R140: NOTE-DONE toward the consumer. -/
def State.noteDoneToConsumer (s : State) (number : Byte) : State :=
  { s with
    notes := { s.notes with doneToConsumer := some (bumpIndication s.notes.doneToConsumer number) }
    drainTx := s.drainTx.map fun tx => tx.tallyDone number }

/-- R139, R140: NOTE-REFUSED toward the consumer. -/
def State.noteRefusedToConsumer (s : State) (number : Byte) : State :=
  { s with
    notes := { s.notes with refusedToConsumer := some (bumpIndication s.notes.refusedToConsumer number) }
    drainTx := s.drainTx.map fun tx => tx.tallyRefused number }

/-- R138: a NOTE-TAKEN of this number is matched by a slot. -/
def NoteSlot.matchesTaken (slot : NoteSlot) (number : Byte) : Bool :=
  match slot with
  | .awaitingTaken n => n.number == number
  | .empty => false
  | .waiting _ => false
  | .sending _ _ => false

/-- R136: a NOTE from the producer reaches the forward slot. -/
def State.forwardNoteArrives (s : State) (note : Note) : State :=
  if s.notes.forward = .empty then { s with notes := { s.notes with forward := .waiting note } }
  else s.noteRefusedToProducer note.number

/-- R137: a NOTE from the consumer reaches the back slot. -/
def State.backNoteArrives (s : State) (note : Note) : State :=
  if s.notes.back = .empty then { s with notes := { s.notes with back := .waiting note } }
  else s.noteRefusedToConsumer note.number

/-- R136, R138: a NOTE-TAKEN from the consumer reaches the forward slot. -/
def State.forwardNoteTaken (s : State) (number : Byte) : State :=
  if s.notes.forward.matchesTaken number then
    { s with notes := { s.notes with forward := .empty } }.noteDoneToProducer number
  else s.countNoteStray

/-- R137, R138: a NOTE-TAKEN from the producer reaches the back slot. -/
def State.backNoteTaken (s : State) (number : Byte) : State :=
  if s.notes.back.matchesTaken number then
    { s with notes := { s.notes with back := .empty } }.noteDoneToConsumer number
  else s.countNoteStray

/-- R143: CLEAR-NOTE at a slot. -/
def NoteSlot.clear : NoteSlot → NoteSlot
  | .empty => .empty
  | .waiting _ => .empty
  | .sending n _ => .sending n true
  | .awaitingTaken _ => .empty

/-! ### Round robin (R116, R132) -/

/-- The tags in order after a position, wrapping from 63 to 1, the position itself last. -/
def tagsAfter (position : Tag) : List Tag :=
  (List.range 63).map fun k => ⟨(position.val + 1 + k) % 63, Nat.mod_lt _ (by decide)⟩

/-- The first tag after a position that passes a test. -/
def searchAfter (position : Tag) (ok : Tag → Bool) : Option Tag := (tagsAfter position).find? ok

/-! ### The drain arbiter (R112 to R117) -/

/-- R114: a stream may start a DATA transmission, but for the carrier, which the decision tests. -/
def Stream.eligible (x : Stream) : Bool :=
  x.state.live && !x.held && x.cursor != x.tail && decide (x.inWindow < x.config.window)

/-- R116: the position of a class. -/
def Positions.ofClass (p : Positions) (c : StreamClass) : Tag :=
  match c with
  | 0 => p.class0
  | 1 => p.class1
  | 2 => p.class2
  | 3 => p.class3

/-- R116: the position of a class set to the stream served. -/
def Positions.serve (p : Positions) (c : StreamClass) (t : Tag) : Positions :=
  match c with
  | 0 => { p with class0 := t }
  | 1 => { p with class1 := t }
  | 2 => { p with class2 := t }
  | 3 => { p with class3 := t }

/-- R115: the credit of a class; class 0 has none and needs none. -/
def ClassWeights.ofClass (w : ClassWeights) (c : StreamClass) : Nat :=
  match c with
  | 0 => 0
  | 1 => w.class1
  | 2 => w.class2
  | 3 => w.class3

/-- R115: a start of a stream of class 1, 2 or 3 spends one credit of its class. -/
def ClassWeights.spend (w : ClassWeights) (c : StreamClass) : ClassWeights :=
  match c with
  | 0 => w
  | 1 => { w with class1 := w.class1 - 1 }
  | 2 => { w with class2 := w.class2 - 1 }
  | 3 => { w with class3 := w.class3 - 1 }

/-- R116: the stream of a class that the round robin reaches first. -/
def State.firstOfClass (s : State) (c : StreamClass) : Option Tag :=
  searchAfter (s.positions.ofClass c) fun t => (s.stream t).eligible && (s.stream t).config.streamClass == c

/-- R115: the arbiter's choice among DATA streams: the stream, its class, and the credits before the start is paid for. -/
structure DataChoice where
  stream : Tag
  streamClass : StreamClass
  credits : ClassWeights
  deriving DecidableEq, Repr

/-- R115: the first of some classes that has an eligible stream and passes a test on its credit. -/
def State.chooseAmong (s : State) (classes : List StreamClass) (credits : ClassWeights) (funded : StreamClass → Bool) :
    Option DataChoice :=
  match classes with
  | [] => none
  | c :: rest =>
      match (if funded c then s.firstOfClass c else none) with
      | some t => some { stream := t, streamClass := c, credits := credits }
      | none => s.chooseAmong rest credits funded

/-- R115: class 0 first; then the lowest class with an eligible stream and a credit above 0; then, after a reload of all
credits, the lowest class with an eligible stream. -/
def State.chooseData (s : State) : Option DataChoice :=
  match s.chooseAmong [0] s.credits (fun _ => true) with
  | some choice => some choice
  | none =>
      match s.chooseAmong [1, 2, 3] s.credits (fun c => decide (0 < s.credits.ofClass c)) with
      | some choice => some choice
      | none => s.chooseAmong [1, 2, 3] s.settings.weights (fun _ => true)

/-- R113: what the drain arbiter takes. -/
inductive DrainChoice where
  | noteDone (i : Indication)
  | noteRefused (i : Indication)
  | forwardNote (n : Note)
  | data (choice : DataChoice)
  deriving DecidableEq, Repr

/-- The forward note as a candidate. -/
def NoteSlot.waitingNote : NoteSlot → Option Note
  | .empty => none
  | .waiting n => some n
  | .sending _ _ => none
  | .awaitingTaken _ => none

/-- R113: the first eligible candidate in the arbiter's order. -/
def State.drainCandidate (s : State) : Option DrainChoice :=
  match s.notes.doneToConsumer with
  | some i => some (.noteDone i)
  | none =>
      match s.notes.refusedToConsumer with
      | some i => some (.noteRefused i)
      | none =>
          match s.notes.forward.waitingNote with
          | some n => some (.forwardNote n)
          | none => s.chooseData.map DrainChoice.data

/-- R112: the drain arbiter's decision: the transmitter is free and the carrier UP. While RESET_N is low the link is silent. -/
def State.drainDecision (s : State) : Option DrainChoice :=
  if s.Awake ∧ s.drainTx = none ∧ s.carrier = .up then s.drainCandidate else none

/-- R63: the record of a stream whose frame at the cursor starts. -/
def Stream.startFrame (x : Stream) : Stream :=
  { x with
    cursor := x.cursor + 1#12
    reach := if x.cursor = x.reach then x.reach + 1#12 else x.reach
    counters :=
      { x.counters with
        starts := x.counters.starts + 1#32
        resends := if x.inWindow < x.started then x.counters.resends + 1#32 else x.counters.resends } }

/-- R60, R63: the record of the frame whose serial is the cursor. -/
def Stream.frameAtCursor (x : Stream) : Option FrameRecord := x.queue[x.inWindow]?

/-! ### The feed arbiter (R132, R170) -/

/-- R132: the FLOW indication that the flow block supplies. -/
def State.flowCandidate (s : State) : Option FlowIndication :=
  match s.pendingPool with
  | some .low => some .poolPause
  | some .normal => some .poolGo
  | none =>
      match searchAfter s.flowPosition fun t => (s.stream t).pendingFlow.isSome with
      | some t => some (if (s.stream t).flow = .paused then .pause t else .go t)
      | none => none

/-- R148: the oldest ANSWERING slot's RESPONSE. -/
def oldestAnswer : List Slot → Option Response
  | [] => none
  | .answering r :: _ => some r
  | .queued _ :: rest => oldestAnswer rest
  | .executing _ :: rest => oldestAnswer rest

/-- R170: what the feed arbiter takes. -/
inductive FeedChoice where
  | flow (i : FlowIndication)
  | noteDone (i : Indication)
  | noteRefused (i : Indication)
  | response (r : Response)
  | backNote (n : Note)
  | event (e : EventRecord)
  deriving DecidableEq, Repr

/-- R170: the candidates of the feed arbiter, in its order; each is `none` where it is not eligible. -/
def State.feedCandidates (s : State) : List (Option FeedChoice) :=
  [ s.flowCandidate.map FeedChoice.flow,
    s.notes.doneToProducer.map FeedChoice.noteDone,
    s.notes.refusedToProducer.map FeedChoice.noteRefused,
    (oldestAnswer s.slots).map FeedChoice.response,
    s.notes.back.waitingNote.map FeedChoice.backNote,
    s.events.queue.head?.map FeedChoice.event ]

/-- R170: the first eligible candidate. -/
def State.feedCandidate (s : State) : Option FeedChoice := s.feedCandidates.findSome? id

/-- R170: the feed arbiter's decision: the feed transmitter is free. While RESET_N is low it decides nothing (R171). -/
def State.feedDecision (s : State) : Option FeedChoice :=
  if s.Awake ∧ s.feedTx = none then s.feedCandidate else none

/-! ### Request slots (R145 to R148) -/

/-- The slot is EXECUTING. -/
def Slot.isExecuting : Slot → Bool
  | .queued _ => false
  | .executing _ => true
  | .answering _ => false

/-- The EXECUTING request. -/
def executingRequest : List Slot → Option Request
  | [] => none
  | .executing r :: _ => some r
  | .queued _ :: rest => executingRequest rest
  | .answering _ :: rest => executingRequest rest

/-- R147: the oldest QUEUED slot becomes EXECUTING. -/
def takeOldestQueued : List Slot → List Slot
  | [] => []
  | .queued r :: rest => .executing r :: rest
  | .executing r :: rest => .executing r :: takeOldestQueued rest
  | .answering r :: rest => .answering r :: takeOldestQueued rest

/-- R147: the EXECUTING slot becomes ANSWERING with its RESPONSE. -/
def answerExecuting (response : Response) : List Slot → List Slot
  | [] => []
  | .executing _ :: rest => .answering response :: rest
  | .queued r :: rest => .queued r :: answerExecuting response rest
  | .answering r :: rest => .answering r :: answerExecuting response rest

/-- R148: the oldest ANSWERING slot becomes FREE and leaves the arrival list. -/
def freeOldestAnswer : List Slot → List Slot
  | [] => []
  | .answering _ :: rest => rest
  | .queued r :: rest => .queued r :: freeOldestAnswer rest
  | .executing r :: rest => .executing r :: freeOldestAnswer rest

/-- R147: the engine takes the oldest QUEUED slot when no slot is EXECUTING and no reset is pending. -/
def State.engineTake (s : State) : State :=
  if s.resetPending || s.slots.any Slot.isExecuting then s else { s with slots := takeOldestQueued s.slots }

/-- R146: a good REQUEST takes a FREE slot, or is discarded, counted and reported. -/
def State.requestArrives (s : State) (r : Request) : State :=
  if s.slots.length < Config.requestSlots then { s with slots := s.slots ++ [Slot.queued r] }.engineTake
  else s.countRequestLost.raise { kind := .requestLost, detail := r.number ++ r.command }

/-! ### Carrier (R102, R104, R105) -/

/-- R103: the carrier state with the CARRIER pin at a level, from DOWN. -/
def carrierFrom (present : Bool) (settleTime : Nat) : Carrier := if present then .settling settleTime else .down

/-- R104: a stream that the restore rewinds. -/
def Stream.restored (x : Stream) : Bool := x.state.live && !x.queue.isEmpty

/-- R104: a stream at the restore. -/
def Stream.restore (x : Stream) : Stream := if x.restored then x.rewind else x

/-- R104: the CARRIER-UP record. -/
def carrierUpRecord (rewound : Nat) : EventRecord := { kind := .carrierUp, detail := BitVec.ofNat 16 rewound }

/-- R104: the carrier becomes UP. -/
def State.carrierUp (s : State) : State :=
  { s with carrier := .up, streams := (s.mapStreams Stream.restore).streams }.raise
    (carrierUpRecord (s.streams.toList.countP Stream.restored))

/-- R105: the CARRIER-LOST record names the abandoned DATA transmission, if there is one. -/
def carrierLostRecord (tx : Option DrainTransmission) (frozen : Nat) : EventRecord :=
  match tx with
  | some (.data record _ d x) =>
      { kind := .carrierLost, streamTag := Tag.byte record.stream, drainTag := DrainTag.byte d, serial := Serial.field x
        detail := BitVec.ofNat 16 frozen }
  | some (.note _) => { kind := .carrierLost, detail := BitVec.ofNat 16 frozen }
  | some (.noteDone _ _) => { kind := .carrierLost, detail := BitVec.ofNat 16 frozen }
  | some (.noteRefused _ _) => { kind := .carrierLost, detail := BitVec.ofNat 16 frozen }
  | none => { kind := .carrierLost, detail := BitVec.ofNat 16 frozen }

/-- R105, R111: the abandoned transmission's cells and record, where it is a frame no longer resident. -/
def abandonedRecords (tx : Option DrainTransmission) : List FrameRecord :=
  match tx with
  | some (.data record resident _ _) => if resident then [] else [record]
  | some (.note _) => []
  | some (.noteDone _ _) => []
  | some (.noteRefused _ _) => []
  | none => []

/-- R105, R91: a stream at carrier loss: HELD is clear and a RUNNING timer FROZEN. -/
def Stream.carrierLost (x : Stream) : Stream := { x with held := false, timer := x.timer.freeze }

/-- R105: how many timers go from RUNNING to FROZEN at carrier loss. -/
def State.runningTimers (s : State) : Nat := s.streams.toList.countP fun x => x.timer.isRunning

/-- R106, R121: the frame in reception at carrier loss is discarded. -/
def DrainReceiver.carrierLost : DrainReceiver → DrainReceiver
  | .awaitStart => .awaitStart
  | .receiving _ _ => .discarding
  | .skipping => .discarding
  | .discarding => .discarding

/-- R105, R106, R111, R142: what carrier loss does before its event and the pool's evaluation. -/
def State.dropCarrier (s : State) : State :=
  { s with
    carrier := .down
    drainRx := s.drainRx.carrierLost
    drainTx := none
    pool := s.pool.giveBack (abandonedRecords s.drainTx)
    notes := { s.notes with forward := s.notes.forward.carrierLost }
    streams := (s.mapStreams Stream.carrierLost).streams }

/-- R105: the carrier goes from UP to DOWN. CARRIER-LOST is queued before a pool event of the deferred return (R167;
log 19). -/
def State.carrierLoss (s : State) : State :=
  (s.dropCarrier.raise (carrierLostRecord s.drainTx s.runningTimers)).evaluatePoolFrom s.pool.freeCells.length

/-- R102, R105: the carrier state follows the level of the CARRIER pin. -/
def State.followCarrier (s : State) : State :=
  match s.carrierPin, s.carrier with
  | true, .down => { s with carrier := .settling s.settings.settleTime }
  | true, .settling _ => s
  | true, .settled => s
  | true, .up => s
  | false, .down => s
  | false, .settling _ => { s with carrier := .down }
  | false, .settled => { s with carrier := .down }
  | false, .up => s.carrierLoss

/-! ### Device reset (R4 to R6, R162) -/

/-- R4: the row of a default profile, for stream t. -/
def profileConfig (profile : Fin 4) (t : Tag) : StreamConfig :=
  let drainTag : DrainTag := ⟨t.val + 1, by omega⟩
  match profile with
  | 0 => { drainTag, streamClass := 2, window := 32, ackTimeout := 50, replayBudget := 4,
           highWatermark := 256, lowWatermark := 128, cellLimit := 384 }
  | 1 => { drainTag, streamClass := 1, window := 64, ackTimeout := 100, replayBudget := 8,
           highWatermark := 512, lowWatermark := 256, cellLimit := 768 }
  | 2 => { drainTag, streamClass := 3, window := 16, ackTimeout := 250, replayBudget := 2,
           highWatermark := 128, lowWatermark := 32, cellLimit := 192 }
  | 3 => { drainTag, streamClass := 0, window := 8, ackTimeout := 25, replayBudget := 15,
           highWatermark := 64, lowWatermark := 16, cellLimit := 96 }

/-- R4: twice the level of PROF1 plus the level of PROF0. -/
def sampledProfile (straps : Straps) : Fin 4 :=
  match straps.prof1, straps.prof0 with
  | false, false => 0
  | false, true => 1
  | true, false => 2
  | true, true => 3

/-- R182: the DEVICE-STARTED record. -/
def startedRecord (straps : Straps) : EventRecord :=
  { kind := .deviceStarted
    detail := flagCode straps.autoopen ++ BitVec.ofNat 8 (sampledProfile straps).val }

/-- R162, steps 1, 2, 4 and 5: every block at its values after device reset, before AUTOOPEN. The cells keep their bytes
(log 13); the count of drawn free values and the queue keep theirs. -/
def State.resetBlocks (s : State) (straps : Straps) : State :=
  { State.reset with
    resetPin := s.resetPin
    carrierPin := s.carrierPin
    profile := sampledProfile straps
    autoopen := straps.autoopen
    streams := Vector.ofFn fun t =>
      { config := profileConfig (sampledProfile straps) t
        budget := (profileConfig (sampledProfile straps) t).replayBudget }
    cells := s.cells
    carrier := carrierFrom s.carrierPin ({} : Settings).settleTime
    events := { queue := [startedRecord straps], lost := 0 }
    freeCount := s.freeCount
    pending := s.pending }

/-- R6: every stream is opened with start serial 0. -/
def State.openAllStreams (s : State) : State := allTags.foldl (fun s t => s.openAt t 0#12) s

/-- R162: the device reset. -/
def State.deviceReset (s : State) (straps : Straps) : State :=
  if straps.autoopen then (s.resetBlocks straps).openAllStreams else s.resetBlocks straps

/-! ### Custody (R27) -/

/-- R27: the custody values. -/
inductive Custody where
  | free
  | filling
  | resident
  | deferred
  deriving DecidableEq, Repr

/-- R27: the record in reception. -/
def State.fillingRecord (s : State) : Option FrameRecord :=
  match s.feedRx with
  | .storing record _ _ _ => some record
  | .awaitStart => none
  | .header _ _ => none
  | .staging _ _ _ _ => none
  | .skipping _ => none

/-- R27, R34: the DEFERRED record. -/
def State.deferredRecord (s : State) : Option FrameRecord := (abandonedRecords s.drainTx).head?

/-- R27: which block holds a record, read from where the record is (log 26); `none` for a number no record has. -/
def State.custody (s : State) (number : Nat) : Option Custody :=
  if number ∈ s.pool.freeRecords then some .free
  else if s.fillingRecord.any (fun r => r.number == number) then some .filling
  else if s.streams.toList.any (fun x => x.queue.any fun r => r.number == number) then some .resident
  else if s.deferredRecord.any (fun r => r.number == number) then some .deferred
  else none

end Sys2Proof.Machine
end

