-- ==== Sys2Proof/Machine/Owed.lean ====
section
/-!
DEFINITION. What the part does by itself the moment it falls due: the expiries and the end of settling of a tick (R90, R102), and the
starts that the two arbiters decide (R112, R170). Each is a command of its own; what any other command finds done of it is said below
(logs 1 and 2).
-/

namespace Sys2Proof.Machine

/-! ### Starts on the drain link (R63, R109, R136, R140) -/

/-- R63, R109, R115, R116: a DATA transmission of the chosen stream starts; its frame is the one at the cursor. -/
def State.startData (s : State) (choice : DataChoice) (record : FrameRecord) : State :=
  let x := s.stream choice.stream
  { s with
    drainTx := some (.data record true x.config.drainTag x.cursor)
    credits := choice.credits.spend choice.streamClass
    positions := s.positions.serve choice.streamClass choice.stream }.setStream choice.stream x.startFrame

/-- R109, R140: a pending NOTE-DONE toward the consumer starts: the record stays pending and the tally starts empty. -/
def State.startDoneToConsumer (s : State) (i : Indication) : State := { s with drainTx := some (.noteDone i none) }

/-- R109, R140: a pending NOTE-REFUSED toward the consumer starts. -/
def State.startRefusedToConsumer (s : State) (i : Indication) : State := { s with drainTx := some (.noteRefused i none) }

/-- R109, R136: the forward note starts and its slot is SENDING. -/
def State.startForwardNote (s : State) (n : Note) : State :=
  { s with drainTx := some (.note n), notes := { s.notes with forward := .sending n false } }

/-! ### Starts on the feed link (R171) -/

/-- R128, R131, R132: a FLOW frame is taken: the sent state becomes the state it carries, and a stream indication moves the
flow position. -/
def State.takeFlow (s : State) (i : FlowIndication) : State :=
  match i with
  | .pause t => { s with flowPosition := t }.updateStream t fun x => { x with sentFlow := .paused }
  | .go t => { s with flowPosition := t }.updateStream t fun x => { x with sentFlow := .go }
  | .poolPause => { s with sentPool := .low }
  | .poolGo => { s with sentPool := .normal }

/-- R171: the feed arbiter's choice starts: a FLOW frame sets the sent state, an indication's record is cleared (R141), a RESPONSE's
slot stays ANSWERING, the back slot is SENDING (R137), and an EVENT frame takes the oldest record and the lost-event count (R168). -/
def State.startFeed (s : State) : FeedChoice → State
  | .flow i => (s.takeFlow i).setFeedTx (some (.flow i))
  | .noteDone i => { s with feedTx := some (.noteDone i), notes := { s.notes with doneToProducer := none } }
  | .noteRefused i => { s with feedTx := some (.noteRefused i), notes := { s.notes with refusedToProducer := none } }
  | .response r => { s with feedTx := some (.response r) }
  | .backNote n => { s with feedTx := some (.note n), notes := { s.notes with back := .sending n false } }
  | .event e =>
      { s with
        feedTx := some (.event e s.events.lost)
        events := { queue := s.events.queue.tail, lost := 0 } }

/-! ### Everything owed -/

/-- R90: the timers that the last tick lowered to 0 expire, in ascending order of tag (log 2). -/
def State.expireDue (s : State) : State :=
  (allTags.filter fun t => (s.stream t).timer == .due).foldl State.expire s

/-- R102, R104: the carrier whose settle count the last tick lowered to 0 is UP. -/
def State.finishSettling (s : State) : State := if s.carrier = .settled then s.carrierUp else s

/-- R112: the drain arbiter's decision is carried out. Where the chosen stream has no frame at its cursor, which R61 rules out, it
stays owed. -/
def State.decideDrain (s : State) : State :=
  match s.drainDecision with
  | some (.noteDone i) => s.startDoneToConsumer i
  | some (.noteRefused i) => s.startRefusedToConsumer i
  | some (.forwardNote n) => s.startForwardNote n
  | some (.data choice) =>
      match (s.stream choice.stream).frameAtCursor with
      | some record => s.startData choice record
      | none => s
  | none => s

/-- R170: the feed arbiter's decision is carried out. -/
def State.decideFeed (s : State) : State :=
  match s.feedDecision with
  | some choice => s.startFeed choice
  | none => s

/-- R90, R92, R102: what the last tick made due is taken: the expiries and then the end of settling (log 2). -/
def State.takeTick (s : State) : State := s.expireDue.finishSettling

/-- R90, R102: something that the last tick made due is still to be taken. -/
def State.tickOwes (s : State) : Bool := (allTags.any fun t => (s.stream t).timer == .due) || s.carrier == .settled

/-- Whether the next command can still fall together with what the last tick made due (log 2). -/
def State.setAtTick (s : State) (b : Bool) : State := { s with atTick := b }

/-- R90, R102, R112, R170: everything that is owed is done: what the tick made due, then each arbiter's decision (log 2). The part held
in reset owes nothing. -/
def State.settle (s : State) : State :=
  match s.phase with
  | .inReset => s
  | .running => s.takeTick.decideDrain.decideFeed.setAtTick false

/-- R75, R79, R95, R112, R170: the state that a command finds which can fall together with what a tick makes due. The first one after
such a tick comes behind the expiries and the end of settling and before the decisions that are left, which then see it; where the
starts are given before it, and at any other time, it meets the frames that the decisions started (log 2). -/
def State.found (s : State) : State :=
  match s.phase with
  | .inReset => s
  | .running => if s.atTick then s.takeTick.setAtTick false else s.settle

/-- A tick, power and RESET_N find everything owed done (log 1). -/
def State.afterOwed (s : State) (effect : State → Result) : Result := effect s.settle

/-- Any other command that is not one of the part's own steps may fall together with what the tick made due (log 2). -/
def State.besideOwed (s : State) (effect : State → Result) : Result := effect s.found

/-- R106, R162: input from a link reaches the part only while it runs and RESET_N is high; at any other time nothing comes of it
(logs 7 and 10). -/
def State.onInput (s : State) (effect : State → Result) : Result :=
  s.besideOwed fun s => if s.Awake then effect s else .next s

/-- R162, R171, R184: a transmission can end only while the part sends. -/
def State.onTransmission (s : State) (mnemonic : String) (effect : State → Result) : Result :=
  s.besideOwed fun s => if s.Awake then effect s else .refused (.notPossible mnemonic)

end Sys2Proof.Machine
end

