-- ==== Sys2Proof/Machine/Wire.lean ====
section
/-!
DEFINITION. What the part puts on its links: frames (R173, R174, R175), results and records (R178 to R181), EVENT, FLOW and
note payloads (R182, R183). Multi-byte fields go most significant byte first, the check word least significant first (R173).
-/

namespace Sys2Proof.Machine

/-- A two-byte field, most significant byte first. -/
def fieldBytes (x : BitVec 16) : List Byte := [x.extractLsb' 8 8, x.extractLsb' 0 8]

/-- A number as a two-byte field. -/
def numberBytes (n : Nat) : List Byte := fieldBytes (BitVec.ofNat 16 n)

/-- A serial as a two-byte field. -/
def serialBytes (x : Serial) : List Byte := fieldBytes (Serial.field x)

/-- A counter as four bytes, most significant byte first. -/
def counterBytes (c : Counter) : List Byte :=
  [c.extractLsb' 24 8, c.extractLsb' 16 8, c.extractLsb' 8 8, c.extractLsb' 0 8]

/-- R173: a frame between its markers. -/
def frameBytes (kind tag : Byte) (serial : Serial) (payload : List Byte) : List Byte :=
  let body := [kind, tag] ++ serialBytes serial ++ numberBytes payload.length ++ payload
  body ++ frameCheck body

/-! ### Results (R179 to R181) -/

/-- R180: the stream configuration block. -/
def StreamConfig.bytes (c : StreamConfig) : List Byte :=
  [DrainTag.byte c.drainTag, BitVec.ofNat 8 c.streamClass.val] ++ numberBytes c.window ++ numberBytes c.ackTimeout ++
    [BitVec.ofNat 8 c.replayBudget] ++ numberBytes c.highWatermark ++ numberBytes c.lowWatermark ++ numberBytes c.cellLimit

/-- R157, R180: the stream record. -/
def Stream.bytes (x : Stream) : List Byte :=
  x.config.bytes ++ [x.state.code, flagCode x.closeRequested] ++ serialBytes x.head ++ serialBytes x.cursor ++
    serialBytes x.reach ++ serialBytes x.tail ++ numberBytes x.queue.length ++ numberBytes x.occupancy ++
    [flagCode x.held, x.flow.code, pendingCode x.pendingFlow, flagCode x.overrunReported, x.timer.code] ++
    numberBytes x.timer.remaining ++ [BitVec.ofNat 8 x.budget]

/-- R181: the settings record. -/
def Settings.bytes (x : Settings) : List Byte :=
  numberBytes x.reserve ++ numberBytes x.hysteresis ++
    [BitVec.ofNat 8 x.weights.class1, BitVec.ofNat 8 x.weights.class2, BitVec.ofNat 8 x.weights.class3] ++
    fieldBytes x.eventMask ++ [BitVec.ofNat 8 x.settleTime]

/-- R156, R179: the identification. -/
def State.identification (s : State) : List Byte :=
  [Config.familyCode] ++ fieldBytes Config.partCode ++ [Config.revision, 0x3F#8] ++ numberBytes Config.cellCount ++
    [BitVec.ofNat 8 Config.cellSize] ++ numberBytes Config.recordCount ++ numberBytes Config.largestFrame ++
    [BitVec.ofNat 8 Config.requestSlots, BitVec.ofNat 8 Config.eventQueueSize] ++
    [BitVec.ofNat 8 s.profile.val, flagCode s.autoopen] ++ numberBytes s.pool.freeCells.length ++
    numberBytes s.pool.freeRecords.length ++ [s.pool.level.code, s.carrier.code]

/-- R179: the seven port counters. -/
def PortCounters.bytes (p : PortCounters) : List Byte :=
  counterBytes p.feedCheckErrors ++ counterBytes p.feedMalformed ++ counterBytes p.drainCheckErrors ++
    counterBytes p.drainMalformed ++ counterBytes p.drainStray ++ counterBytes p.noteStray ++ counterBytes p.requestsLost

/-- R179: the nine stream counters. -/
def StreamCounters.bytes (c : StreamCounters) : List Byte :=
  counterBytes c.admitted ++ counterBytes c.refusedState ++ counterBytes c.refusedLimit ++ counterBytes c.refusedPool ++
    counterBytes c.starts ++ counterBytes c.resends ++ counterBytes c.timeouts ++ counterBytes c.peerReplays ++
    counterBytes c.staleReturns

/-! ### Frames on the feed link -/

/-- R178: a RESPONSE payload. -/
def Response.bytes (r : Response) : List Byte := [r.number, r.command, r.target, r.status.code] ++ r.result

/-- R182: an EVENT payload. -/
def eventBytes (e : EventRecord) (lost : Nat) : List Byte :=
  [e.kind.code, e.streamTag, e.drainTag] ++ fieldBytes e.serial ++ fieldBytes e.detail ++ numberBytes lost

/-- R183: the indication byte of a FLOW payload. -/
def FlowIndication.code : FlowIndication → Byte
  | .pause _ => 0x01#8
  | .go _ => 0x02#8
  | .poolPause => 0x03#8
  | .poolGo => 0x04#8

/-- R175, R183: the TAG of a FLOW frame. -/
def FlowIndication.tag : FlowIndication → Byte
  | .pause t => Tag.byte t
  | .go t => Tag.byte t
  | .poolPause => 0x00#8
  | .poolGo => 0x00#8

/-- R183: the payload of NOTE-DONE and NOTE-REFUSED. -/
def Indication.bytes (i : Indication) : List Byte := [i.number, BitVec.ofNat 8 i.count]

/-- R183: the payload of a NOTE. -/
def Note.bytes (n : Note) : List Byte := n.number :: n.payload

/-- R175: the KIND of a feed frame. -/
def FeedFrame.kind : FeedFrame → Byte
  | .flow _ => kindFlow
  | .noteDone _ => kindNoteDone
  | .noteRefused _ => kindNoteRefused
  | .response _ => kindResponse
  | .note _ => kindNote
  | .event _ _ => kindEvent

/-- R175: the TAG of a feed frame. -/
def FeedFrame.tag : FeedFrame → Byte
  | .flow i => i.tag
  | .noteDone _ => 0x00#8
  | .noteRefused _ => 0x00#8
  | .response _ => 0x00#8
  | .note _ => 0x00#8
  | .event _ _ => 0x00#8

/-- R178, R182, R183: the payload of a feed frame. -/
def FeedFrame.payload : FeedFrame → List Byte
  | .flow i => [i.code]
  | .noteDone i => i.bytes
  | .noteRefused i => i.bytes
  | .response r => r.bytes
  | .note n => n.bytes
  | .event e lost => eventBytes e lost

/-- R173, R175: a feed frame between its markers; its unused SERIAL is 0. -/
def FeedFrame.bytes (f : FeedFrame) : List Byte := frameBytes f.kind f.tag 0#12 f.payload

/-- R171, R184: the frame in transmission on the feed link between its markers; while RESET_N is low the link carries no
symbols. -/
def State.feedBytes (s : State) : Option (List Byte) := if s.Awake then s.feedTx.map FeedFrame.bytes else none

/-! ### Frames on the drain link (R107) -/

/-- R107, R28, R183: a drain frame between its markers. A DATA payload is read from its cells. -/
def DrainTransmission.bytes (tx : DrainTransmission) (cells : Memory) : List Byte :=
  match tx with
  | .data record _ d x => frameBytes kindData (DrainTag.byte d) x (cells.readChain record.chain record.length)
  | .note n => frameBytes kindNote 0x00#8 0#12 n.bytes
  | .noteDone i _ => frameBytes kindNoteDone 0x00#8 0#12 i.bytes
  | .noteRefused i _ => frameBytes kindNoteRefused 0x00#8 0#12 i.bytes

/-- R107, R184: the frame in transmission on the drain link between its markers; while RESET_N is low the link carries no
symbols. -/
def State.drainBytes (s : State) : Option (List Byte) :=
  if s.Awake then s.drainTx.map fun tx => tx.bytes s.cells else none

end Sys2Proof.Machine
end

