-- ==== Sys2Proof/Machine/DrainLink.lean ====
section
/-!
DEFINITION. The return receiver and its commands (R67 to R79, R106, R118 to R124, R136 to R139): ACK, REPLAY, HOLD, RESUME,
CONSUMER_NOTE, CONSUMER_NOTE_TAKEN, DRAIN_FRAME_DROPPED and RETURN_FRAME_DISCARDED. While the part is held in reset or RESET_N is low
it takes no input (R162), so each of them then changes nothing (logs 7 and 10).
-/

namespace Sys2Proof.Machine

/-! ### Reception (R106, R121) -/

/-- R106, R121: a start marker: a frame in reception is cut short and counted, and the next frame is taken into reception if the carrier
is UP, and discarded otherwise. -/
def State.returnStarts (s : State) : State :=
  let cut :=
    match s.drainRx with
    | .receiving _ _ => s.countDrainMalformed
    | .awaitStart => s
    | .skipping => s
    | .discarding => s
  cut.setDrainRx (if s.carrier = .up then .receiving [] false else .discarding)

/-- R121: what comes of the frame in reception; its header is tested as its six bytes complete, and a malformed one is counted there. -/
def State.takeReturn (s : State) (symbols : List LaneSymbol) : State :=
  match s.drainRx with
  | .receiving received damaged =>
      let bytes := received ++ s.arrived symbols
      let drawn := s.drawFree (undecodedIn symbols)
      if 6 ≤ bytes.length ∧ drainHeaderValid (headerOf bytes) = false then drawn.countDrainMalformed.setDrainRx .skipping
      else drawn.setDrainRx (.receiving bytes (damaged || undecodedIn symbols != 0))
  | .awaitStart => s
  | .skipping => s
  | .discarding => s

/-- R121: symbols on the drain link, the start marker before them if it has just come. -/
def State.receive (s : State) (opens : Bool) (symbols : List LaneSymbol) : State :=
  (if opens then s.returnStarts else s).takeReturn symbols

/-- R121: the end marker: the frame in reception is dropped and counted, or it is good. A frame that is skipped or discarded ends
uncounted. -/
def State.endReturn (s : State) (good : List Byte → State → Result) : Result :=
  let ended := s.setDrainRx .awaitStart
  match s.drainRx with
  | .receiving received damaged =>
      match dropCause? received damaged with
      | some .malformed => .next ended.countDrainMalformed
      | some .checkError => .next ended.countDrainCheckError
      | none => good received ended
  | .awaitStart => .next ended
  | .skipping => .next ended
  | .discarding => .next ended

/-- R121: the bytes of the frame in reception. -/
def DrainReceiver.held : DrainReceiver → List Byte
  | .receiving received _ => received
  | .awaitStart => []
  | .skipping => []
  | .discarding => []

/-- A part of a frame begins with its start marker. -/
def opensFrame : FramePart → Bool
  | .whole => true
  | .opening _ => true
  | .closing => false

/-- The bytes of a frame that come with a part of it, where so many of them are held. -/
def partBytes (part : FramePart) (frame : List Byte) (held : Nat) : List Byte :=
  match part with
  | .whole => frame
  | .opening count => frame.take count
  | .closing => frame.drop held

/-- Decoded bytes on the lane (R173). -/
def dataSymbols (bytes : List Byte) : List LaneSymbol := bytes.map fun b => .byte (.data b)

/-- R121, R122: part of a good frame, given as the bytes between its markers, reaches the return receiver; at its end it is routed. A
frame that the receiver passes but that is not this one is not possible here (log 18). -/
def State.onReturn (s : State) (mnemonic : String) (part : FramePart) (frame : List Byte) (effect : State → State) : Result :=
  s.onInput fun s =>
    let received := s.receive (opensFrame part) (dataSymbols (partBytes part frame s.drainRx.held.length))
    let ending := received.endReturn fun bytes ended =>
      if bytes = frame then .next (effect ended) else .refused (.notPossible mnemonic)
    match part with
    | .opening _ => .next received
    | .whole => ending
    | .closing => ending

/-! ### Good frames (R122): a SERIAL that is not used reaches no block (R175) -/

/-- R68 to R73: an ACK handed to the replay window for stream t. -/
def State.takeAck (s : State) (t : Tag) (drainTag : Byte) (serial : Serial) : State :=
  match (s.stream t).classifyAck serial with
  | .taken => s.ackProgress t serial
  | .stale => s.staleReturn t
  | .ahead => s.aheadReturn t .ackAhead drainTag serial

/-- ACK (R67, R68, R121 to R123). -/
def execAck (part : FramePart) (fields : ReturnFields) (s : State) : Result :=
  s.onReturn "ACK" part (frameBytes kindAck fields.drainTag fields.serial []) fun s =>
    match s.streamOf fields.drainTag with
    | some t => s.takeAck t fields.drainTag fields.serial
    | none => s.strayReturn kindAck fields.drainTag (Serial.field fields.serial)

/-- R69 to R78: a REPLAY handed to the replay window for stream t. -/
def State.takeReplay (s : State) (t : Tag) (drainTag : Byte) (serial : Serial) : State :=
  match (s.stream t).classifyReplay serial with
  | .taken => s.replayAccepted t serial
  | .stale => s.staleReturn t
  | .ahead => s.aheadReturn t .replayAhead drainTag serial

/-- REPLAY (R67, R69, R121 to R123). -/
def execReplay (part : FramePart) (fields : ReturnFields) (s : State) : Result :=
  s.onReturn "REPLAY" part (frameBytes kindReplay fields.drainTag fields.serial []) fun s =>
    match s.streamOf fields.drainTag with
    | some t => s.takeReplay t fields.drainTag fields.serial
    | none => s.strayReturn kindReplay fields.drainTag (Serial.field fields.serial)

/-- HOLD (R118, R119, R122, R123): drain tag 255 acts on every stream that is not CLOSED. -/
def execHold (frame : FramePart × ReturnFields) (s : State) : Result :=
  let drainTag := frame.2.drainTag
  s.onReturn "HOLD" frame.1 (frameBytes kindHold drainTag frame.2.serial []) fun s =>
    if drainTag = 255#8 then s.mapStreams fun x => if x.state = .closed then x else x.hold
    else
      match s.streamOf drainTag with
      | some t => s.updateStream t Stream.hold
      | none => s.strayReturn kindHold drainTag 0xFFFF#16

/-- RESUME (R118, R119, R122, R123): drain tag 255 acts on every stream that is not CLOSED. -/
def execResume (frame : FramePart × ReturnFields) (s : State) : Result :=
  let drainTag := frame.2.drainTag
  s.onReturn "RESUME" frame.1 (frameBytes kindResume drainTag frame.2.serial []) fun s =>
    if drainTag = 255#8 then s.mapStreams fun x => if x.state = .closed then x else x.resume
    else
      match s.streamOf drainTag with
      | some t => s.updateStream t Stream.resume
      | none => s.strayReturn kindResume drainTag 0xFFFF#16

/-- CONSUMER_NOTE (R122, R137, R139). -/
def execConsumerNote (part : FramePart) (fields : NoteFields) (s : State) : Result :=
  s.onReturn "CONSUMER_NOTE" part (frameBytes kindNote 0#8 fields.serial (fields.number :: fields.payload)) fun s =>
    s.backNoteArrives { number := fields.number, payload := fields.payload }

/-- CONSUMER_NOTE_TAKEN (R122, R136, R138). -/
def execConsumerNoteTaken (frame : FramePart × NoteTakenFields) (s : State) : Result :=
  s.onReturn "CONSUMER_NOTE_TAKEN" frame.1 (frameBytes kindNoteTaken 0#8 frame.2.serial [frame.2.number]) fun s =>
    s.forwardNoteTaken frame.2.number

/-! ### Frames that are dropped or discarded (R106, R121) -/

/-- DRAIN_FRAME_DROPPED (R121, R124). A frame that R121 passes at its end is not dropped: it is one of the commands above. -/
def execDrainFrameDropped (extent : Extent) (symbols : List LaneSymbol) (s : State) : Result :=
  s.onInput fun s =>
    let received := s.receive extent.opens symbols
    match extent.ends with
    | none => .next received
    | some .start => .next received.returnStarts
    | some .finish => received.endReturn fun _ _ => .refused (.notPossible "DRAIN_FRAME_DROPPED")

/-- RETURN_FRAME_DISCARDED (R106): no counter changes at the end of a frame that is discarded. A frame that is in reception there, or
whose malformed header was counted, is not discarded: it is one of the commands above. -/
def execReturnFrameDiscarded (portion : Portion) (s : State) : Result :=
  s.onInput fun s =>
    let received := s.receive portion.extent.opens portion.symbols
    match portion.extent.ends, received.drainRx with
    | none, _ => .next received
    | some _, .receiving _ _ => .refused (.notPossible "RETURN_FRAME_DISCARDED")
    | some _, .skipping => .refused (.notPossible "RETURN_FRAME_DISCARDED")
    | some .start, _ => .next received.returnStarts
    | some .finish, _ => .next (received.setDrainRx .awaitStart)

end Sys2Proof.Machine
end

