-- ==== Sys2Proof/Machine/DrainTransmit.lean ====
section
/-!
DEFINITION. The drain transmitter's commands (R63, R64, R107 to R117, R136, R140): DATA, forward note and indication
transmissions, their starts by the drain arbiter and their completions.
-/

namespace Sys2Proof.Machine

/-- DATA_TRANSMISSION_START (R63, R109, R112 to R116). -/
def execDataTransmissionStart (s : State) : Result :=
  match s.drainDecision with
  | some (.data choice) =>
      match (s.stream choice.stream).frameAtCursor with
      | some record => .next (s.startData choice record)
      | none => .fault .queueBroken
  | some (.noteDone _) => .refused (.notPossible "DATA_TRANSMISSION_START")
  | some (.noteRefused _) => .refused (.notPossible "DATA_TRANSMISSION_START")
  | some (.forwardNote _) => .refused (.notPossible "DATA_TRANSMISSION_START")
  | none => .refused (.notPossible "DATA_TRANSMISSION_START")

/-- R64, R110, R34: a DATA transmission ends by completion. -/
def State.completeData (s : State) (record : FrameRecord) (resident : Bool) : State :=
  let free := { s with drainTx := none }
  if resident then free.updateStream record.stream Stream.completed else free.deferredReturn record

/-- DATA_TRANSMISSION_COMPLETE (R64, R110). -/
def execDataTransmissionComplete (s : State) : Result :=
  s.onTransmission "DATA_TRANSMISSION_COMPLETE" fun s =>
    match s.drainTx with
    | some (.data record resident _ _) => .next (s.completeData record resident)
    | some (.note _) => .refused (.notPossible "DATA_TRANSMISSION_COMPLETE")
    | some (.noteDone _ _) => .refused (.notPossible "DATA_TRANSMISSION_COMPLETE")
    | some (.noteRefused _ _) => .refused (.notPossible "DATA_TRANSMISSION_COMPLETE")
    | none => .refused (.notPossible "DATA_TRANSMISSION_COMPLETE")

/-- FORWARD_NOTE_START (R109, R113, R136). -/
def execForwardNoteStart (s : State) : Result :=
  match s.drainDecision with
  | some (.forwardNote n) => .next (s.startForwardNote n)
  | some (.noteDone _) => .refused (.notPossible "FORWARD_NOTE_START")
  | some (.noteRefused _) => .refused (.notPossible "FORWARD_NOTE_START")
  | some (.data _) => .refused (.notPossible "FORWARD_NOTE_START")
  | none => .refused (.notPossible "FORWARD_NOTE_START")

/-- FORWARD_NOTE_COMPLETE (R110, R136, R143). -/
def execForwardNoteComplete (s : State) : Result :=
  s.onTransmission "FORWARD_NOTE_COMPLETE" fun s =>
    match s.drainTx with
    | some (.note _) =>
        .next { s with drainTx := none, notes := { s.notes with forward := s.notes.forward.complete } }
    | some (.data _ _ _ _) => .refused (.notPossible "FORWARD_NOTE_COMPLETE")
    | some (.noteDone _ _) => .refused (.notPossible "FORWARD_NOTE_COMPLETE")
    | some (.noteRefused _ _) => .refused (.notPossible "FORWARD_NOTE_COMPLETE")
    | none => .refused (.notPossible "FORWARD_NOTE_COMPLETE")

/-- DRAIN_INDICATION_START (R109, R113, R140): the record stays pending and the tally starts empty. -/
def execDrainIndicationStart (s : State) : Result :=
  match s.drainDecision with
  | some (.noteDone i) => .next (s.startDoneToConsumer i)
  | some (.noteRefused i) => .next (s.startRefusedToConsumer i)
  | some (.forwardNote _) => .refused (.notPossible "DRAIN_INDICATION_START")
  | some (.data _) => .refused (.notPossible "DRAIN_INDICATION_START")
  | none => .refused (.notPossible "DRAIN_INDICATION_START")

/-- DRAIN_INDICATION_COMPLETE (R110, R140): the record keeps only the tally gathered during the transmission. -/
def execDrainIndicationComplete (s : State) : Result :=
  s.onTransmission "DRAIN_INDICATION_COMPLETE" fun s =>
    match s.drainTx with
    | some (.noteDone _ tally) =>
        .next { s with drainTx := none, notes := { s.notes with doneToConsumer := tally } }
    | some (.noteRefused _ tally) =>
        .next { s with drainTx := none, notes := { s.notes with refusedToConsumer := tally } }
    | some (.data _ _ _ _) => .refused (.notPossible "DRAIN_INDICATION_COMPLETE")
    | some (.note _) => .refused (.notPossible "DRAIN_INDICATION_COMPLETE")
    | none => .refused (.notPossible "DRAIN_INDICATION_COMPLETE")

end Sys2Proof.Machine
end

