-- ==== Sys2Proof/Machine/FeedLink.lean ====
section
/-!
DEFINITION. The feed receiver's commands (R40 to R59): FEED_HEADER, DATA_FRAME_END, FEED_FRAME_CUT_SHORT,
FEED_FRAME_IGNORED, REQUEST_ARRIVAL, PRODUCER_NOTE, PRODUCER_NOTE_TAKEN and SKIPPING_FRAME_END. While the part is held in reset or
RESET_N is low it takes no input (R162), so each of them then changes nothing (logs 7 and 10).
-/

namespace Sys2Proof.Machine

/-- R50: the payload bytes of a frame in STORING go into its cell chain in order. -/
def State.storeBytes (s : State) (record : FrameRecord) (payload : List Byte) : State :=
  { s with cells := s.cells.writeChain record.chain payload }

/-! ### Headers and admission (R41 to R49) -/

/-- R44 to R48: what the admission tests say of a frame of n cells for stream t. -/
inductive Admission where
  | refusedState
  | refusedLimit
  | refusedPool
  | admitted
  deriving DecidableEq, Repr

/-- R44 to R48: the admission tests in their order: state, cell limit, class reserve, space. -/
def State.admission (s : State) (t : Tag) (n : Nat) : Admission :=
  let x := s.stream t
  if x.state ≠ .opened then .refusedState
  else if x.config.cellLimit < x.occupancy + n then .refusedLimit
  else if 2 ≤ x.config.streamClass.val ∧ s.pool.freeCells.length < s.settings.reserve + n then .refusedPool
  else if s.pool.freeCells.length < n ∨ s.pool.freeRecords = [] then .refusedPool
  else .admitted

/-- R45, R46: a cell-limit refusal is counted; the first of a run raises OVERRUN and sets the flag. -/
def State.refuseLimit (s : State) (t : Tag) : State :=
  let x := s.stream t
  let counted := s.countStream t fun c => { c with refusedLimit := c.refusedLimit + 1#32 }
  if x.overrunReported then counted
  else
    (counted.updateStream t fun y => { y with overrunReported := true }).raise
      { kind := .overrun, streamTag := Tag.byte t, drainTag := DrainTag.byte x.config.drainTag
        serial := Serial.field x.tail, detail := BitVec.ofNat 16 x.occupancy }

/-- R49, R50: the frame is admitted to reception with its reservation; payload that has come with the header is stored. DESIGN CHOICE
(log 15): R50 does not say when a byte is in its cell; the last four bytes that have come may be the check word, and are held back until
the frame ends or is cut short. -/
def State.beginStoring (s : State) (t : Tag) (length : Nat) (body : List Byte) (running : CheckWord) (damaged : Bool) :
    State :=
  match s.reserve t length with
  | some (record, s') =>
      (s'.storeBytes record (framePayload length body)).setFeedRx (.storing record body running damaged)
  | none => s.setFeedRx (.skipping body.length)

/-- R44, R49: the admission tests on a valid DATA header; `body` is what has come after it. -/
def State.takeData (s : State) (t : Tag) (length : Nat) (body : List Byte) (running : CheckWord) (damaged : Bool) : State :=
  match s.admission t (cellsFor length) with
  | .refusedState =>
      (s.countStream t fun c => { c with refusedState := c.refusedState + 1#32 }).setFeedRx (.skipping body.length)
  | .refusedLimit => (s.refuseLimit t).setFeedRx (.skipping body.length)
  | .refusedPool =>
      (s.countStream t fun c => { c with refusedPool := c.refusedPool + 1#32 }).setFeedRx (.skipping body.length)
  | .admitted => s.beginStoring t length body running damaged

/-- R40 to R43: bytes since a start marker have come. Fewer than six stay in HEADER; the sixth completes the header, which is
tested, and the bytes after it are the frame's first. -/
def State.takeHeader (s : State) (received : List Byte) (damaged : Bool) : State :=
  if received.length < 6 then s.setFeedRx (.header received damaged)
  else
    let header := headerOf received
    let body := received.drop 6
    let running := checkBytes checkInitial (received.take 6)
    match feedKind? header with
    | none => s.countFeedMalformed.setFeedRx (.skipping body.length)
    | some (.data t) => s.takeData t header.length.toNat body running damaged
    | some .staged => s.setFeedRx (.staging header body running damaged)

/-- FEED_HEADER (R41 to R49): the bytes after a start marker in AWAIT-START, or after one that has cut a frame short. -/
def execFeedHeader (symbols : List LaneSymbol) (s : State) : Result :=
  s.onInput fun s =>
    let drawn := s.drawFree (undecodedIn symbols)
    match s.feedRx with
    | .awaitStart => .next (drawn.takeHeader (s.arrived symbols) (undecodedIn symbols != 0))
    | .header received damaged =>
        .next (drawn.takeHeader (received ++ s.arrived symbols) (damaged || undecodedIn symbols != 0))
    | .storing _ _ _ _ => .refused (.notPossible "FEED_HEADER")
    | .staging _ _ _ _ => .refused (.notPossible "FEED_HEADER")
    | .skipping _ => .refused (.notPossible "FEED_HEADER")

/-! ### Frame ends (R50 to R59) -/

/-- R51: the end of a stored DATA frame, decided by its integrity and its stream's state. -/
def State.endData (s : State) (record : FrameRecord) (verdict : FrameVerdict) : State :=
  match verdict with
  | .countMismatch => (s.returnReservation record).countFeedMalformed
  | .checkMismatch => (s.returnReservation record).countFeedCheckError
  | .good =>
      if (s.stream record.stream).state = .opened then s.updateStream record.stream fun x => x.append record
      else
        (s.returnReservation record).countStream record.stream fun c => { c with refusedState := c.refusedState + 1#32 }

/-- DATA_FRAME_END (R50, R51): the payload bytes are stored up to the declared length, those held back since the header among them
(log 15), and the frame is decided. -/
def execDataFrameEnd (symbols : List LaneSymbol) (s : State) : Result :=
  s.onInput fun s =>
    match s.feedRx with
    | .storing record received running damaged =>
        let values := received ++ s.arrived symbols
        let stored := (s.drawFree (undecodedIn symbols)).storeBytes record (framePayload record.length values)
        let verdict := frameVerdict running (damaged || undecodedIn symbols != 0) record.length values
        .next ((stored.endData record verdict).setFeedRx .awaitStart)
    | .awaitStart => .refused (.notPossible "DATA_FRAME_END")
    | .header _ _ => .refused (.notPossible "DATA_FRAME_END")
    | .staging _ _ _ _ => .refused (.notPossible "DATA_FRAME_END")
    | .skipping _ => .refused (.notPossible "DATA_FRAME_END")

/-- R52: the receiver after a marker that cuts a frame short: a start marker begins the next frame. -/
def FeedReceiver.afterCut : Marker → FeedReceiver
  | .start => .header [] false
  | .finish => .awaitStart

/-- R52: a frame cut short before its header is complete. -/
def State.cutHeader (s : State) (marker : Marker) (received : List Byte) : Result :=
  if received.length < 6 then .next (s.countFeedMalformed.setFeedRx (FeedReceiver.afterCut marker))
  else .refused (.notPossible "FEED_FRAME_CUT_SHORT")

/-- FEED_FRAME_CUT_SHORT (R52): a frame that is cut short has stored every byte that came, up to LENGTH (DESIGN CHOICE, log 15). A start
marker in HEADER, STORING, STAGING or SKIPPING, or an end marker in HEADER. In HEADER
fewer than six bytes have come; AWAIT-START stands for HEADER where the cut frame's own start marker came since the last
command (log 14). -/
def execFeedFrameCutShort (marker : Marker) (symbols : List LaneSymbol) (s : State) : Result :=
  s.onInput fun s =>
    let drawn := s.drawFree (undecodedIn symbols)
    match s.feedRx, marker with
    | .awaitStart, _ => drawn.cutHeader marker (s.arrived symbols)
    | .header received _, _ => drawn.cutHeader marker (received ++ s.arrived symbols)
    | .storing record received _ _, .start =>
        let stored := drawn.storeBytes record ((received ++ s.arrived symbols).take record.length)
        .next ((stored.returnReservation record).countFeedMalformed.setFeedRx (.header [] false))
    | .staging _ _ _ _, .start => .next (drawn.countFeedMalformed.setFeedRx (.header [] false))
    | .skipping _, .start => .next (drawn.setFeedRx (.header [] false))
    | .storing _ _ _ _, .finish => .refused (.notPossible "FEED_FRAME_CUT_SHORT")
    | .staging _ _ _ _, .finish => .refused (.notPossible "FEED_FRAME_CUT_SHORT")
    | .skipping _, .finish => .refused (.notPossible "FEED_FRAME_CUT_SHORT")

/-- FEED_FRAME_IGNORED (R40): what arrives in AWAIT-START without a start marker is discarded without being counted. -/
def execFeedFrameIgnored (_symbols : List LaneSymbol) (s : State) : Result :=
  s.onInput fun s =>
    match s.feedRx with
    | .awaitStart => .next s
    | .header _ _ => .refused (.notPossible "FEED_FRAME_IGNORED")
    | .storing _ _ _ _ => .refused (.notPossible "FEED_FRAME_IGNORED")
    | .staging _ _ _ _ => .refused (.notPossible "FEED_FRAME_IGNORED")
    | .skipping _ => .refused (.notPossible "FEED_FRAME_IGNORED")

/-- R57: the end of a frame in STAGING of the given kind: its integrity is tested, and a good frame's payload is handed on in
the same step. -/
def State.endStaged (s : State) (kind : Byte) (mnemonic : String) (symbols : List LaneSymbol)
    (handOn : List Byte → State → State) : Result :=
  s.onInput fun s =>
    match s.feedRx with
    | .staging header received running damaged =>
        if header.kind = kind then
          let values := received ++ s.arrived symbols
          let length := header.length.toNat
          let ended := (s.drawFree (undecodedIn symbols)).setFeedRx .awaitStart
          match frameVerdict running (damaged || undecodedIn symbols != 0) length values with
          | .countMismatch => .next ended.countFeedMalformed
          | .checkMismatch => .next ended.countFeedCheckError
          | .good => .next (handOn (framePayload length values) ended)
        else .refused (.notPossible mnemonic)
    | .awaitStart => .refused (.notPossible mnemonic)
    | .header _ _ => .refused (.notPossible mnemonic)
    | .storing _ _ _ _ => .refused (.notPossible mnemonic)
    | .skipping _ => .refused (.notPossible mnemonic)

/-- REQUEST_ARRIVAL (R57, R146, R147). -/
def execRequestArrival (symbols : List LaneSymbol) (s : State) : Result :=
  s.endStaged kindRequest "REQUEST_ARRIVAL" symbols fun payload s' => s'.requestArrives (requestOf payload)

/-- R183: the note that a NOTE payload spells. -/
def noteOf : List Byte → Note
  | number :: payload => { number := number, payload := payload }
  | [] => { number := 0#8, payload := [] }

/-- PRODUCER_NOTE (R57, R136). -/
def execProducerNote (symbols : List LaneSymbol) (s : State) : Result :=
  s.endStaged kindNote "PRODUCER_NOTE" symbols fun payload s' => s'.forwardNoteArrives (noteOf payload)

/-- PRODUCER_NOTE_TAKEN (R57, R137, R138). -/
def execProducerNoteTaken (symbols : List LaneSymbol) (s : State) : Result :=
  s.endStaged kindNoteTaken "PRODUCER_NOTE_TAKEN" symbols fun payload s' => s'.backNoteTaken (payload.headD 0#8)

/-- SKIPPING_FRAME_END (R42, R44): the end marker of a skipped frame is not counted a second time. -/
def execSkippingFrameEnd (symbols : List LaneSymbol) (s : State) : Result :=
  s.onInput fun s =>
    match s.feedRx with
    | .skipping _ => .next ((s.drawFree (undecodedIn symbols)).setFeedRx .awaitStart)
    | .awaitStart => .refused (.notPossible "SKIPPING_FRAME_END")
    | .header _ _ => .refused (.notPossible "SKIPPING_FRAME_END")
    | .storing _ _ _ _ => .refused (.notPossible "SKIPPING_FRAME_END")
    | .staging _ _ _ _ => .refused (.notPossible "SKIPPING_FRAME_END")

end Sys2Proof.Machine
end

