-- ==== Sys2Proof/Machine/FeedTransmit.lean ====
section
/-!
DEFINITION. The feed transmitter's commands (R128, R131, R132, R141, R148, R160, R168, R170, R171): the five starts by
the feed arbiter and the three completions.
-/

namespace Sys2Proof.Machine

/-- FLOW_FRAME_START (R132, R170, R171). -/
def execFlowFrameStart (s : State) : Result :=
  match s.feedDecision with
  | some (.flow i) => .next (s.startFeed (.flow i))
  | some (.noteDone _) => .refused (.notPossible "FLOW_FRAME_START")
  | some (.noteRefused _) => .refused (.notPossible "FLOW_FRAME_START")
  | some (.response _) => .refused (.notPossible "FLOW_FRAME_START")
  | some (.backNote _) => .refused (.notPossible "FLOW_FRAME_START")
  | some (.event _) => .refused (.notPossible "FLOW_FRAME_START")
  | none => .refused (.notPossible "FLOW_FRAME_START")

/-- FEED_INDICATION_START (R141, R170, R171): taking the indication clears its record. -/
def execFeedIndicationStart (s : State) : Result :=
  match s.feedDecision with
  | some (.noteDone i) => .next (s.startFeed (.noteDone i))
  | some (.noteRefused i) => .next (s.startFeed (.noteRefused i))
  | some (.flow _) => .refused (.notPossible "FEED_INDICATION_START")
  | some (.response _) => .refused (.notPossible "FEED_INDICATION_START")
  | some (.backNote _) => .refused (.notPossible "FEED_INDICATION_START")
  | some (.event _) => .refused (.notPossible "FEED_INDICATION_START")
  | none => .refused (.notPossible "FEED_INDICATION_START")

/-- RESPONSE_START (R148, R170, R171): the slot stays ANSWERING. -/
def execResponseStart (s : State) : Result :=
  match s.feedDecision with
  | some (.response r) => .next (s.startFeed (.response r))
  | some (.flow _) => .refused (.notPossible "RESPONSE_START")
  | some (.noteDone _) => .refused (.notPossible "RESPONSE_START")
  | some (.noteRefused _) => .refused (.notPossible "RESPONSE_START")
  | some (.backNote _) => .refused (.notPossible "RESPONSE_START")
  | some (.event _) => .refused (.notPossible "RESPONSE_START")
  | none => .refused (.notPossible "RESPONSE_START")

/-- BACK_NOTE_START (R137, R170, R171). -/
def execBackNoteStart (s : State) : Result :=
  match s.feedDecision with
  | some (.backNote n) => .next (s.startFeed (.backNote n))
  | some (.flow _) => .refused (.notPossible "BACK_NOTE_START")
  | some (.noteDone _) => .refused (.notPossible "BACK_NOTE_START")
  | some (.noteRefused _) => .refused (.notPossible "BACK_NOTE_START")
  | some (.response _) => .refused (.notPossible "BACK_NOTE_START")
  | some (.event _) => .refused (.notPossible "BACK_NOTE_START")
  | none => .refused (.notPossible "BACK_NOTE_START")

/-- EVENT_FRAME_START (R168, R170, R171): the oldest record and the lost-event count go out; the count becomes 0. -/
def execEventFrameStart (s : State) : Result :=
  match s.feedDecision with
  | some (.event e) => .next (s.startFeed (.event e))
  | some (.flow _) => .refused (.notPossible "EVENT_FRAME_START")
  | some (.noteDone _) => .refused (.notPossible "EVENT_FRAME_START")
  | some (.noteRefused _) => .refused (.notPossible "EVENT_FRAME_START")
  | some (.response _) => .refused (.notPossible "EVENT_FRAME_START")
  | some (.backNote _) => .refused (.notPossible "EVENT_FRAME_START")
  | none => .refused (.notPossible "EVENT_FRAME_START")

/-- R160: the RESPONSE of an executed RESET-DEVICE, after which the device reset follows. -/
def State.endsInReset (s : State) (r : Response) : Bool :=
  s.resetPending && r.command == commandResetDevice && r.status == .ok

/-- RESPONSE_COMPLETE (R148, R160, R171): the slot becomes FREE; after the RESPONSE of RESET-DEVICE the device reset follows
in the same step. -/
def execResponseComplete (straps : Straps) (s : State) : Result :=
  s.onTransmission "RESPONSE_COMPLETE" fun s =>
    match s.feedTx with
    | some (.response r) =>
        if s.endsInReset r then .next (s.deviceReset straps)
        else .next { s with feedTx := none, slots := freeOldestAnswer s.slots }
    | some (.flow _) => .refused (.notPossible "RESPONSE_COMPLETE")
    | some (.noteDone _) => .refused (.notPossible "RESPONSE_COMPLETE")
    | some (.noteRefused _) => .refused (.notPossible "RESPONSE_COMPLETE")
    | some (.note _) => .refused (.notPossible "RESPONSE_COMPLETE")
    | some (.event _ _) => .refused (.notPossible "RESPONSE_COMPLETE")
    | none => .refused (.notPossible "RESPONSE_COMPLETE")

/-- BACK_NOTE_COMPLETE (R137, R143, R171). -/
def execBackNoteComplete (s : State) : Result :=
  s.onTransmission "BACK_NOTE_COMPLETE" fun s =>
    match s.feedTx with
    | some (.note _) => .next { s with feedTx := none, notes := { s.notes with back := s.notes.back.complete } }
    | some (.flow _) => .refused (.notPossible "BACK_NOTE_COMPLETE")
    | some (.noteDone _) => .refused (.notPossible "BACK_NOTE_COMPLETE")
    | some (.noteRefused _) => .refused (.notPossible "BACK_NOTE_COMPLETE")
    | some (.response _) => .refused (.notPossible "BACK_NOTE_COMPLETE")
    | some (.event _ _) => .refused (.notPossible "BACK_NOTE_COMPLETE")
    | none => .refused (.notPossible "BACK_NOTE_COMPLETE")

/-- FEED_FRAME_COMPLETE (R171): a FLOW, note indication or EVENT transmission has no further effect. -/
def execFeedFrameComplete (s : State) : Result :=
  s.onTransmission "FEED_FRAME_COMPLETE" fun s =>
    match s.feedTx with
    | some (.flow _) => .next { s with feedTx := none }
    | some (.noteDone _) => .next { s with feedTx := none }
    | some (.noteRefused _) => .next { s with feedTx := none }
    | some (.event _ _) => .next { s with feedTx := none }
    | some (.response _) => .refused (.notPossible "FEED_FRAME_COMPLETE")
    | some (.note _) => .refused (.notPossible "FEED_FRAME_COMPLETE")
    | none => .refused (.notPossible "FEED_FRAME_COMPLETE")

end Sys2Proof.Machine
end

