-- ==== Sys2Proof/Machine/Requests.lean ====
section
/-!
DEFINITION. The management engine's effect steps (R147 to R161), one for each command of R176 and one for unknown commands.
Each takes the EXECUTING request from its slot, validates it in the order of R150, acts, and leaves the RESPONSE in the slot.
-/

namespace Sys2Proof.Machine

/-- What an effect step gives: the state it leaves, the status and the result. -/
structure Answer where
  state : State
  status : Status
  result : List Byte

/-- R150: a refused request changes no state of any block. -/
def Answer.refuse (s : State) (status : Status) : Answer := { state := s, status := status, result := [] }

/-- A request answered OK with a result. -/
def Answer.ok (s : State) (result : List Byte) : Answer := { state := s, status := .ok, result := result }

/-- R147: the RESPONSE goes into the EXECUTING slot, which becomes ANSWERING; the engine then takes the next QUEUED slot. -/
def State.answer (s : State) (r : Request) (status : Status) (result : List Byte) : State :=
  { s with
    slots := answerExecuting
      { number := r.number, command := r.command, target := r.target, status := status, result := result } s.slots }.engineTake

/-- R147: the effect step of an EXECUTING request that the row takes. -/
def State.effectStep (s : State) (mnemonic : String) (takes : Request → Bool) (effect : Request → State → Answer) : Result :=
  s.besideOwed fun s =>
    match executingRequest s.slots with
    | some r =>
        if s.phase = .running ∧ takes r = true then
          .next ((effect r s).state.answer r (effect r s).status (effect r s).result)
        else .refused (.notPossible mnemonic)
    | none => .refused (.notPossible mnemonic)

/-- R151, R152: a command of target tag 0 without parameters. -/
def plainCommand (r : Request) (s : State) (effect : State → Answer) : Answer :=
  if r.target ≠ 0#8 then .refuse s .badTag
  else if r.parameters ≠ [] then .refuse s .badValue
  else effect s

/-! ### Reading and settings (R154 to R159) -/

/-- R156: IDENTIFY. -/
def answerIdentify (r : Request) (s : State) : Answer := plainCommand r s fun s => .ok s s.identification

/-- IDENTIFY (R156). -/
def execIdentify (s : State) : Result :=
  s.effectStep "IDENTIFY" (fun r => r.command == commandIdentify) answerIdentify

/-- R154: READ-SETTINGS. -/
def answerReadSettings (r : Request) (s : State) : Answer := plainCommand r s fun s => .ok s s.settings.bytes

/-- READ_SETTINGS (R154). -/
def execReadSettings (s : State) : Result :=
  s.effectStep "READ_SETTINGS" (fun r => r.command == commandReadSettings) answerReadSettings

/-- R155, R37: WRITE-SETTINGS replaces the record, and the pool state is evaluated with it. -/
def answerWriteSettings (r : Request) (s : State) : Answer :=
  if r.target ≠ 0#8 then .refuse s .badTag
  else
    match settingsRecord? r.parameters with
    | none => .refuse s .badValue
    | some x =>
        let written := { s with settings := x }.evaluatePool
        .ok written [written.pool.level.code]

/-- WRITE_SETTINGS (R155). -/
def execWriteSettings (s : State) : Result :=
  s.effectStep "WRITE_SETTINGS" (fun r => r.command == commandWriteSettings) answerWriteSettings

/-- R157: READ-STREAM. -/
def answerReadStream (r : Request) (s : State) : Answer :=
  match streamTarget? r.target with
  | none => .refuse s .badTag
  | some t => if r.parameters ≠ [] then .refuse s .badValue else .ok s (s.stream t).bytes

/-- READ_STREAM (R157). -/
def execReadStream (s : State) : Result :=
  s.effectStep "READ_STREAM" (fun r => r.command == commandReadStream) answerReadStream

/-- R159: READ-COUNTERS; the target tag chooses the scope. -/
def answerReadCounters (r : Request) (s : State) : Answer :=
  if r.target = 0#8 then
    match flagParameter? r.parameters with
    | none => .refuse s .badValue
    | some clear => .ok (if clear then { s with port := {} } else s) s.port.bytes
  else
    match streamTarget? r.target with
    | none => .refuse s .badTag
    | some t =>
        match flagParameter? r.parameters with
        | none => .refuse s .badValue
        | some clear => .ok (if clear then s.countStream t (fun _ => {}) else s) (s.stream t).counters.bytes

/-- READ_COUNTERS (R159). -/
def execReadCounters (s : State) : Result :=
  s.effectStep "READ_COUNTERS" (fun r => r.command == commandReadCounters) answerReadCounters

/-! ### Stream requests (R17 to R23, R82 to R84) -/

/-- R22, R23, R99, R130: the configuration is replaced, the remaining budget clamped, and a stream that is not CLOSED
evaluated. -/
def State.writeConfig (s : State) (t : Tag) (c : StreamConfig) : State :=
  let written := s.updateStream t fun x => { x with config := c, budget := min x.budget c.replayBudget }
  if (s.stream t).state = .closed then written else written.evaluateFlow t

/-- R22: WRITE-STREAM. -/
def answerWriteStream (r : Request) (s : State) : Answer :=
  match streamTarget? r.target with
  | none => .refuse s .badTag
  | some t =>
      match configBlock? r.parameters with
      | none => .refuse s .badValue
      | some c =>
          if (s.stream t).state ≠ .closed ∧ c.drainTag ≠ (s.stream t).config.drainTag then .refuse s .badState
          else .ok (s.writeConfig t c) [((s.writeConfig t c).stream t).flow.code]

/-- WRITE_STREAM (R22). -/
def execWriteStream (s : State) : Result :=
  s.effectStep "WRITE_STREAM" (fun r => r.command == commandWriteStream) answerWriteStream

/-- R8, R18: OPEN-STREAM. -/
def answerOpenStream (r : Request) (s : State) : Answer :=
  match streamTarget? r.target with
  | none => .refuse s .badTag
  | some t =>
      match optionalSerial? r.parameters with
      | none => .refuse s .badValue
      | some start =>
          if (s.stream t).state ≠ .closed then .refuse s .badState
          else
            match s.mapped (s.stream t).config.drainTag with
            | some holder => { state := s, status := .conflict, result := [Tag.byte holder] }
            | none => .ok (s.openAt t (start.getD 0#12)) (serialBytes (start.getD 0#12))

/-- OPEN_STREAM (R18). -/
def execOpenStream (s : State) : Result :=
  s.effectStep "OPEN_STREAM" (fun r => r.command == commandOpenStream) answerOpenStream

/-- R19: a stream enters DRAINING. -/
def Stream.startDrain (x : Stream) : Stream := { x with state := .draining, closeRequested := true }

/-- R19: CLOSE-STREAM in DRAIN mode. -/
def State.closeByDrain (s : State) (t : Tag) : Answer :=
  match (s.stream t).state with
  | .closed => .refuse s .badState
  | .draining => .refuse s .badState
  | .halted => .refuse s .badState
  | .opened =>
      if (s.stream t).queue = [] then .ok (s.enterClosed t) (serialBytes (s.stream t).tail)
      else
        { state := s.updateStream t Stream.startDrain, status := .accepted
          result := numberBytes (s.stream t).queue.length }

/-- R20: every resident frame is released, the pointers go to the tail, and the stream enters CLOSED. -/
def State.discardClose (s : State) (t : Tag) : State :=
  let released := (s.releaseAll t).updateStream t fun x => x.collapse x.tail
  (released.enterClosed t).evaluatePoolFrom s.pool.freeCells.length

/-- R20: CLOSE-STREAM in DISCARD mode. -/
def State.closeByDiscard (s : State) (t : Tag) : Answer :=
  match (s.stream t).state with
  | .closed => .refuse s .badState
  | .opened => .ok (s.discardClose t) (serialBytes (s.stream t).tail)
  | .draining => .ok (s.discardClose t) (serialBytes (s.stream t).tail)
  | .halted => .ok (s.discardClose t) (serialBytes (s.stream t).tail)

/-- R17, R19, R20: CLOSE-STREAM; mode 00h is DRAIN and 01h DISCARD (R177). -/
def answerCloseStream (r : Request) (s : State) : Answer :=
  match streamTarget? r.target with
  | none => .refuse s .badTag
  | some t =>
      match flagParameter? r.parameters with
      | none => .refuse s .badValue
      | some false => s.closeByDrain t
      | some true => s.closeByDiscard t

/-- CLOSE_STREAM_DRAIN (R19): a CLOSE-STREAM request whose mode is not DISCARD (log 20). -/
def execCloseStreamDrain (s : State) : Result :=
  s.effectStep "CLOSE_STREAM_DRAIN"
    (fun r => r.command == commandCloseStream && r.parameters != [0x01#8]) answerCloseStream

/-- CLOSE_STREAM_DISCARD (R20): a CLOSE-STREAM request whose mode is not DRAIN (log 20). -/
def execCloseStreamDiscard (s : State) : Result :=
  s.effectStep "CLOSE_STREAM_DISCARD"
    (fun r => r.command == commandCloseStream && r.parameters != [0x00#8]) answerCloseStream

/-- R83, R84: a flush: every resident frame is released, the pointers go to the serial, the timer is IDLE; a DRAINING stream
closes. -/
def State.flush (s : State) (t : Tag) (serial : Serial) : State :=
  let x := s.stream t
  let emptied := (s.releaseAll t).updateStream t fun y => y.collapse serial
  let closed := if x.state = .draining then emptied.closeDrained t .flushed else emptied
  (closed.evaluateFlowFrom t x.occupancy).evaluatePoolFrom s.pool.freeCells.length

/-- R82, R83: FLUSH-STREAM. -/
def answerFlushStream (r : Request) (s : State) : Answer :=
  match streamTarget? r.target with
  | none => .refuse s .badTag
  | some t =>
      match optionalSerial? r.parameters with
      | none => .refuse s .badValue
      | some serial =>
          if (s.stream t).state = .closed then .refuse s .badState
          else
            .ok (s.flush t (serial.getD (s.stream t).tail))
              (serialBytes (serial.getD (s.stream t).tail) ++ numberBytes (s.stream t).queue.length)

/-- FLUSH_STREAM (R82 to R84). -/
def execFlushStream (s : State) : Result :=
  s.effectStep "FLUSH_STREAM" (fun r => r.command == commandFlushStream) answerFlushStream

/-- R21, R16: the cursor goes to head and the stream back to OPEN. -/
def Stream.restart (x : Stream) : Stream := { x with cursor := x.head }.reopen

/-- R21: RESTART-STREAM. -/
def answerRestartStream (r : Request) (s : State) : Answer :=
  match streamTarget? r.target with
  | none => .refuse s .badTag
  | some t =>
      if r.parameters ≠ [] then .refuse s .badValue
      else if (s.stream t).state ≠ .halted then .refuse s .badState
      else .ok (s.updateStream t Stream.restart) (serialBytes (s.stream t).head)

/-- RESTART_STREAM (R21). -/
def execRestartStream (s : State) : Result :=
  s.effectStep "RESTART_STREAM" (fun r => r.command == commandRestartStream) answerRestartStream

/-! ### CLEAR-NOTE, DISCARD-ALL, RESET-DEVICE (R143, R85, R160) -/

/-- R143: CLEAR-NOTE. -/
def answerClearNote (r : Request) (s : State) : Answer :=
  if r.target ≠ 0#8 then .refuse s .badTag
  else
    match flagParameter? r.parameters with
    | none => .refuse s .badValue
    | some false =>
        .ok { s with notes := { s.notes with forward := s.notes.forward.clear } }
          [s.notes.forward.code, s.notes.forward.numberHeld]
    | some true =>
        .ok { s with notes := { s.notes with back := s.notes.back.clear } } [s.notes.back.code, s.notes.back.numberHeld]

/-- CLEAR_NOTE (R143). -/
def execClearNote (s : State) : Result :=
  s.effectStep "CLEAR_NOTE" (fun r => r.command == commandClearNote) answerClearNote

/-- R85: DISCARD-ALL on one stream, before the pool's evaluation: its frames are released and its pointers go to the tail; a
DRAINING stream closes and a HALTED one reopens; the flow block evaluates it if its occupancy changed. -/
def State.discardStream (s : State) (t : Tag) : State :=
  let x := s.stream t
  let emptied := (s.releaseAll t).updateStream t fun y => y.collapse y.tail
  match x.state with
  | .closed => s
  | .opened => emptied.evaluateFlowFrom t x.occupancy
  | .draining => emptied.closeDrained t .discarded
  | .halted => (emptied.updateStream t Stream.reopen).evaluateFlowFrom t x.occupancy

/-- R85, R86: every stream in ascending order of tag, and then the pool state once. -/
def State.discardAllStreams (s : State) : State :=
  (allTags.foldl State.discardStream s).evaluatePoolFrom s.pool.freeCells.length

/-- R149: how many streams are not CLOSED. -/
def State.openCount (s : State) : Nat := s.streams.toList.countP fun x => x.state != .closed

/-- R149: how many frames a DISCARD-ALL releases. -/
def State.discardCount (s : State) : Nat :=
  (s.streams.toList.map fun x => if x.state = .closed then 0 else x.queue.length).sum

/-- R85: DISCARD-ALL. -/
def answerDiscardAll (r : Request) (s : State) : Answer :=
  plainCommand r s fun s => .ok s.discardAllStreams ([BitVec.ofNat 8 s.openCount] ++ numberBytes s.discardCount)

/-- DISCARD_ALL (R85, R86). -/
def execDiscardAll (s : State) : Result :=
  s.effectStep "DISCARD_ALL" (fun r => r.command == commandDiscardAll) answerDiscardAll

/-- R160: RESET-DEVICE sets the reset-pending mark. -/
def answerResetDevice (r : Request) (s : State) : Answer :=
  plainCommand r s fun s => .ok { s with resetPending := true } []

/-- RESET_DEVICE (R160). -/
def execResetDevice (s : State) : Result :=
  s.effectStep "RESET_DEVICE" (fun r => r.command == commandResetDevice) answerResetDevice

/-- R150: an unknown command; its target and parameters are not looked at. -/
def answerUnknown (_r : Request) (s : State) : Answer := .refuse s .badCommand

/-- UNKNOWN_COMMAND (R150). -/
def execUnknownCommand (s : State) : Result :=
  s.effectStep "UNKNOWN_COMMAND" (fun r => !commandKnown r.command) answerUnknown

end Sys2Proof.Machine
end

