-- ==== Sys2Proof/Machine/Reset.lean ====
section
/-!
DEFINITION. Power and reset: POWER_UP, RESET_N_LOW and DEVICE_RESET (R162, R184).
-/

namespace Sys2Proof.Machine

/-- R162, R56, R121, R171: the part held in reset: both links silent, frames in transmission cut short, the frames in reception on
both links abandoned uncounted. The blocks keep what they hold until the device reset rebuilds them (log 8, log 9). -/
def State.holdInReset (s : State) (pin : ResetPin) : State :=
  { s with phase := .inReset, resetPin := pin, feedRx := .awaitStart, feedTx := none, drainRx := .awaitStart, drainTx := none }

/-- POWER_UP (R162): from power-on the part behaves as while RESET_N is low, whatever the level of the pin. -/
def execPowerUp (resetNHigh : Bool) (s : State) : Result :=
  s.afterOwed fun s => .next (s.holdInReset (if resetNHigh then .high else .low))

/-- R184: RESET_N goes low for less than 1 µs: both links are silent, no arbiter decides and no input is taken until it rises, and
only then does the part either reset or carry on (log 10). A pin that is low already stays as it is. -/
def State.shortPulse (s : State) : State :=
  match s.resetPin with
  | .high => { s with resetPin := .lowShort }
  | .low => s
  | .lowShort => s

/-- RESET_N_LOW (R162, R184): a pulse of at least 1 µs resets the part. -/
def execResetNLow (pulse : PulseLength) (s : State) : Result :=
  s.afterOwed fun s =>
    match pulse with
    | .atLeast1us => .next (s.holdInReset .low)
    | .under1us => .next s.shortPulse

/-- R184: the part carries on as if the pulse had not occurred; it follows CARRIER again. -/
def State.carryOn (s : State) : State := if s.Awake then s.followCarrier else s

/-- R184: the rising edge that ends a short pulse: a free value says whether the part performs a device reset or carries on
(log 10). -/
def State.endShortPulse (s : State) (straps : Straps) : State :=
  let risen := { s with resetPin := .high, freeCount := s.freeCount + 1 }
  if Config.shortPulseResets s.freeCount then risen.deviceReset straps else risen.carryOn

/-- DEVICE_RESET (R162): the rising edge of RESET_N. -/
def execDeviceReset (straps : Straps) (s : State) : Result :=
  s.afterOwed fun s =>
    match s.resetPin with
    | .lowShort => .next (s.endShortPulse straps)
    | .low => .next ({ s with resetPin := .high }.deviceReset straps)
    | .high => .next (s.deviceReset straps)

end Sys2Proof.Machine
end

