-- ==== Sys2Proof/Machine/Timers.lean ====
section
/-!
DEFINITION. The clock and the carrier: TICK and TIMER_EXPIRY (R90, R93, R94), CARRIER_PRESENT, CARRIER_ABSENT and
CARRIER_SETTLED (R102 to R106).
-/

namespace Sys2Proof.Machine

/-- R90, R102: every RUNNING timer and, in SETTLING, the settle count is lowered by one. -/
def State.lowerCounts (s : State) : State :=
  { s with carrier := s.carrier.tick }.mapStreams fun x => { x with timer := x.timer.tick }

/-- R90, R102: a tick: the counts are lowered, and where something is then due, it is noted for what may fall together with it (log 2). -/
def State.tick (s : State) : State := s.lowerCounts.setAtTick s.lowerCounts.tickOwes

/-- TICK (R90, R102): every RUNNING timer and, in SETTLING, the settle count is lowered by one. What it lowers from 1 to 0 expires, or
has settled, before anything else is taken (R92; logs 1, 3 and 4). The tick runs from the end of device reset (R90; log 7). -/
def execTick (s : State) : Result :=
  s.afterOwed fun s =>
    match s.phase with
    | .inReset => .next s
    | .running => .next s.tick

/-- TIMER_EXPIRY (R93, R94): the tick has lowered the stream's RUNNING timer from 1 to 0. -/
def execTimerExpiry (t : Tag) (s : State) : Result :=
  if s.phase = .running ∧ (s.stream t).timer = .due then .next (s.expire t)
  else .refused (.notPossible "TIMER_EXPIRY")

/-- R102, R162: the CARRIER pin takes a level; the part follows it only while it runs and RESET_N is high. -/
def State.setCarrierPin (s : State) (present : Bool) : State :=
  let moved := { s with carrierPin := present }
  if s.Awake then moved.followCarrier else moved

/-- CARRIER_PRESENT (R102, R162). -/
def execCarrierPresent (s : State) : Result := s.besideOwed fun s => .next (s.setCarrierPin true)

/-- CARRIER_ABSENT (R102, R105, R162). -/
def execCarrierAbsent (s : State) : Result := s.besideOwed fun s => .next (s.setCarrierPin false)

/-- CARRIER_SETTLED (R102, R104): the tick has lowered the settle count from 1 to 0. -/
def execCarrierSettled (s : State) : Result :=
  if s.phase = .running ∧ s.carrier = .settled then .next s.carrierUp
  else .refused (.notPossible "CARRIER_SETTLED")

end Sys2Proof.Machine
end

