-- ==== Sys2Proof/Machine/Dispatch.lean ====
section
/-!
DEFINITION. Which meaning each command has: one arm for each constructor of `Instr`.
-/

namespace Sys2Proof.Machine

/-- The effect of a command on everything but the queue of waiting commands. -/
def exec (i : Instr) (s : State) : Host.Outcome State Fault Refusal :=
  match i with
  | .powerUp resetNHigh => Sys2Proof.Machine.execPowerUp resetNHigh s
  | .resetNLow pulse => Sys2Proof.Machine.execResetNLow pulse s
  | .deviceReset straps => Sys2Proof.Machine.execDeviceReset straps s
  | .feedHeader symbols => Sys2Proof.Machine.execFeedHeader symbols s
  | .dataFrameEnd symbols => Sys2Proof.Machine.execDataFrameEnd symbols s
  | .feedFrameCutShort marker symbols => Sys2Proof.Machine.execFeedFrameCutShort marker symbols s
  | .feedFrameIgnored symbols => Sys2Proof.Machine.execFeedFrameIgnored symbols s
  | .requestArrival symbols => Sys2Proof.Machine.execRequestArrival symbols s
  | .producerNote symbols => Sys2Proof.Machine.execProducerNote symbols s
  | .producerNoteTaken symbols => Sys2Proof.Machine.execProducerNoteTaken symbols s
  | .ack part fields => Sys2Proof.Machine.execAck part fields s
  | .replay part fields => Sys2Proof.Machine.execReplay part fields s
  | .hold frame => Sys2Proof.Machine.execHold frame s
  | .resume frame => Sys2Proof.Machine.execResume frame s
  | .consumerNote part fields => Sys2Proof.Machine.execConsumerNote part fields s
  | .consumerNoteTaken frame => Sys2Proof.Machine.execConsumerNoteTaken frame s
  | .drainFrameDropped extent symbols => Sys2Proof.Machine.execDrainFrameDropped extent symbols s
  | .returnFrameDiscarded portion => Sys2Proof.Machine.execReturnFrameDiscarded portion s
  | .timerExpiry stream => Sys2Proof.Machine.execTimerExpiry stream s
  | .carrierPresent => Sys2Proof.Machine.execCarrierPresent s
  | .carrierAbsent => Sys2Proof.Machine.execCarrierAbsent s
  | .carrierSettled => Sys2Proof.Machine.execCarrierSettled s
  | .dataTransmissionStart => Sys2Proof.Machine.execDataTransmissionStart s
  | .dataTransmissionComplete => Sys2Proof.Machine.execDataTransmissionComplete s
  | .forwardNoteStart => Sys2Proof.Machine.execForwardNoteStart s
  | .forwardNoteComplete => Sys2Proof.Machine.execForwardNoteComplete s
  | .drainIndicationStart => Sys2Proof.Machine.execDrainIndicationStart s
  | .drainIndicationComplete => Sys2Proof.Machine.execDrainIndicationComplete s
  | .flowFrameStart => Sys2Proof.Machine.execFlowFrameStart s
  | .feedIndicationStart => Sys2Proof.Machine.execFeedIndicationStart s
  | .responseStart => Sys2Proof.Machine.execResponseStart s
  | .backNoteStart => Sys2Proof.Machine.execBackNoteStart s
  | .eventFrameStart => Sys2Proof.Machine.execEventFrameStart s
  | .responseComplete straps => Sys2Proof.Machine.execResponseComplete straps s
  | .backNoteComplete => Sys2Proof.Machine.execBackNoteComplete s
  | .feedFrameComplete => Sys2Proof.Machine.execFeedFrameComplete s
  | .identify => Sys2Proof.Machine.execIdentify s
  | .readSettings => Sys2Proof.Machine.execReadSettings s
  | .writeSettings => Sys2Proof.Machine.execWriteSettings s
  | .readStream => Sys2Proof.Machine.execReadStream s
  | .writeStream => Sys2Proof.Machine.execWriteStream s
  | .openStream => Sys2Proof.Machine.execOpenStream s
  | .closeStreamDrain => Sys2Proof.Machine.execCloseStreamDrain s
  | .closeStreamDiscard => Sys2Proof.Machine.execCloseStreamDiscard s
  | .flushStream => Sys2Proof.Machine.execFlushStream s
  | .restartStream => Sys2Proof.Machine.execRestartStream s
  | .readCounters => Sys2Proof.Machine.execReadCounters s
  | .clearNote => Sys2Proof.Machine.execClearNote s
  | .discardAll => Sys2Proof.Machine.execDiscardAll s
  | .resetDevice => Sys2Proof.Machine.execResetDevice s
  | .unknownCommand => Sys2Proof.Machine.execUnknownCommand s
  | .tick => Sys2Proof.Machine.execTick s
  | .skippingFrameEnd symbols => Sys2Proof.Machine.execSkippingFrameEnd symbols s

end Sys2Proof.Machine
end

