-- ==== Sys2Proof/Safety.lean ====
section
/-!
DEFINITION. What a safe state of the QX264 is: the ranges that the spec gives its state (R2, R88, R96, R102, R115, R135, R145,
R153, R166), and the laws that it says the part keeps (R7, R11, R35, R61, R88, R145), in the terms that the statements use.
-/

namespace Sys2Proof.Machine

/-! ### Ranges -/

/-- R88: the remaining count of a RUNNING or FROZEN timer is 1 to 4,095. -/
def Timer.InRange : Timer → Prop
  | .idle => True
  | .running n => 1 ≤ n ∧ n ≤ 4095
  | .due => True
  | .frozen n => 1 ≤ n ∧ n ≤ 4095

/-- R102: the settle count in SETTLING is 1 to 255. -/
def Carrier.InRange : Carrier → Prop
  | .down => True
  | .settling n => 1 ≤ n ∧ n ≤ 255
  | .settled => True
  | .up => True

/-- R2, R96: a stream's configuration lies in its ranges and the remaining budget never exceeds the configured budget. -/
structure Stream.InRange (x : Stream) : Prop where
  config : x.config.inRange = true
  budget : x.budget ≤ x.config.replayBudget
  timer : x.timer.InRange

/-- R135: a pending record's count is 1 to 255. -/
def IndicationInRange (r : Option Indication) : Prop := ∀ i, r = some i → 1 ≤ i.count ∧ i.count ≤ 255

/-- R135: a note's payload has at most 64 bytes. -/
def NoteSlot.InRange : NoteSlot → Prop
  | .empty => True
  | .waiting n => n.payload.length ≤ 64
  | .sending n _ => n.payload.length ≤ 64
  | .awaitingTaken n => n.payload.length ≤ 64

/-- R135: the note block. -/
structure NoteBlock.InRange (b : NoteBlock) : Prop where
  forward : b.forward.InRange
  back : b.back.InRange
  doneToProducer : IndicationInRange b.doneToProducer
  refusedToProducer : IndicationInRange b.refusedToProducer
  doneToConsumer : IndicationInRange b.doneToConsumer
  refusedToConsumer : IndicationInRange b.refusedToConsumer

/-- R140: a tally's count is 1 to 255 like the record's. -/
def DrainTransmission.InRange : Option DrainTransmission → Prop
  | none => True
  | some (.data _ _ _ _) => True
  | some (.note _) => True
  | some (.noteDone _ tally) => IndicationInRange tally
  | some (.noteRefused _ tally) => IndicationInRange tally

/-- R41, R42, R43: fewer than six bytes have come in HEADER, and only a header that asks for staging is in STAGING. -/
def FeedReceiver.InRange : FeedReceiver → Prop
  | .awaitStart => True
  | .header received _ => received.length < 6
  | .storing _ _ _ _ => True
  | .staging h _ _ _ => feedKind? h = some .staged
  | .skipping _ => True

/-- R121: a complete header in reception has passed its tests. -/
def DrainReceiver.InRange : DrainReceiver → Prop
  | .awaitStart => True
  | .receiving received _ => 6 ≤ received.length → drainHeaderValid (headerOf received) = true
  | .skipping => True
  | .discarding => True

/-- R166: at most 16 records, the lost count at most 65,535, and above 0 only while the queue is full. -/
structure EventBlock.InRange (b : EventBlock) : Prop where
  queue : b.queue.length ≤ 16
  lost : b.lost ≤ 65535
  lostOnlyWhenFull : 0 < b.lost → b.queue.length = 16

/-- R115: a credit is 0 to 16. -/
structure ClassWeights.InRange (w : ClassWeights) : Prop where
  class1 : w.class1 ≤ 16
  class2 : w.class2 ≤ 16
  class3 : w.class3 ≤ 16

/-- Every piece of state lies in the range that the spec gives it, and the cell memory has its canonical form. -/
structure State.InRange (s : State) : Prop where
  streams : ∀ t, (s.stream t).InRange
  cells : s.cells.wf = true
  carrier : s.carrier.InRange
  credits : s.credits.InRange
  notes : s.notes.InRange
  drainTx : DrainTransmission.InRange s.drainTx
  feedRx : s.feedRx.InRange
  drainRx : s.drainRx.InRange
  /-- R145: at most four slots are occupied. -/
  slots : s.slots.length ≤ 4
  settings : settingsInRange s.settings = true
  events : s.events.InRange

/-! ### Laws of the running part -/

/-- R11: what a CLOSED stream looks like. -/
structure Stream.ClosedLaw (x : Stream) : Prop where
  queue : x.queue = []
  cursor : x.cursor = x.head
  reach : x.reach = x.head
  tail : x.tail = x.head
  timer : x.timer = .idle
  held : x.held = false
  flow : x.flow = .go

/-- R61, R69: the resident frames carry consecutive serials from head; head, cursor, reach and tail lie in that order; the
queue is within half of the serial space, and reach within the largest window. -/
structure Stream.WindowLaw (x : Stream) : Prop where
  serials : x.queue.map (fun r => r.serial) = (List.range x.queue.length).map fun i => some (x.head + BitVec.ofNat 12 i)
  tail : Serial.distance x.head x.tail = x.queue.length
  cursor : x.inWindow ≤ x.started
  reach : x.started ≤ x.queue.length
  bound : x.queue.length ≤ 2048
  window : x.started ≤ 256

/-- R88: a timer is RUNNING only while the stream is not HELD and the carrier is UP, FROZEN only otherwise, and either only in
OPEN or DRAINING with an in-window count above 0. -/
structure Stream.TimerLaw (x : Stream) (carrier : Carrier) : Prop where
  running : x.timer.isRunning = true → x.held = false ∧ carrier = .up
  frozen : ∀ n, x.timer = .frozen n → x.held = true ∨ carrier ≠ .up
  armed : x.timer ≠ .idle → x.state.live = true ∧ 0 < x.inWindow

/-- R27, R28: a frame record's length is 1 to 2,048 and its chain has the cells of that length. -/
structure FrameRecord.Law (r : FrameRecord) : Prop where
  lengthPos : 1 ≤ r.length
  lengthMax : r.length ≤ 2048
  chain : r.chain.length = cellsFor r.length

/-- The laws of one stream's record: R11, R12, R14, R61, R88, R91. -/
structure Stream.Law (x : Stream) (t : Tag) (carrier : Carrier) : Prop where
  window : x.WindowLaw
  timer : x.TimerLaw carrier
  closed : x.state = .closed → x.ClosedLaw
  /-- R13: a DRAINING stream always holds at least one resident frame. -/
  draining : x.state = .draining → x.queue ≠ []
  /-- R12: close-requested is set exactly in DRAINING. -/
  closeRequested : x.closeRequested = true ↔ x.state = .draining
  /-- R105, R106: HELD is clear while the carrier is not UP. -/
  held : x.held = true → carrier = .up
  records : ∀ r ∈ x.queue, r.stream = t ∧ r.Law

/-- The records that are FILLING, RESIDENT or DEFERRED (R27). -/
def State.heldRecords (s : State) : List FrameRecord :=
  s.fillingRecord.toList ++ (s.streams.toList.flatMap fun x => x.queue) ++ s.deferredRecord.toList

/-- R35: the free-cell list and the chains of the records that are not FREE together hold each cell exactly once. -/
def State.CellLaw (s : State) : Prop :=
  (s.pool.freeCells ++ s.heldRecords.flatMap fun r => r.chain).Perm (List.range 8192)

/-- R35: the free-record list and the records that are not FREE together hold each record exactly once. -/
def State.RecordLaw (s : State) : Prop :=
  (s.pool.freeRecords ++ s.heldRecords.map fun r => r.number).Perm (List.range 2048)

/-- R35: the cells of the FILLING record that count in a stream's occupancy. -/
def State.fillingCells (s : State) (t : Tag) : Nat :=
  match s.fillingRecord with
  | none => 0
  | some r => if r.stream = t then r.chain.length else 0

/-- R32, R34: a DATA frame in transmission with its mark set is in its stream's queue, under the serial sent. -/
def State.TransmissionLaw (s : State) : Prop :=
  ∀ record d x, s.drainTx = some (.data record true d x) →
    record ∈ (s.stream record.stream).queue ∧ record.serial = some x

/-- R135, R109: the forward slot is SENDING exactly while its note is in transmission on the drain link. -/
def State.ForwardNoteLaw (s : State) : Prop :=
  ∀ n, (∃ c, s.notes.forward = .sending n c) ↔ s.drainTx = some (.note n)

/-- R137: the back slot is SENDING exactly while its note is in transmission on the feed link. -/
def State.BackNoteLaw (s : State) : Prop :=
  ∀ n, (∃ c, s.notes.back = .sending n c) ↔ s.feedTx = some (.note n)

/-- R145, R147: in arrival order stand the ANSWERING slots, then at most one EXECUTING slot, then the QUEUED slots. -/
def SlotsInOrder : List Slot → Prop
  | [] => True
  | .answering _ :: rest => SlotsInOrder rest
  | .executing _ :: rest => ∀ x ∈ rest, ∃ r, x = .queued r
  | .queued _ :: rest => ∀ x ∈ rest, ∃ r, x = .queued r

/-- R121, R124: the frame that is arriving on the drain link was taken into reception and has not been lost since. -/
def DrainReceiver.Taken (r : DrainReceiver) : Prop := r = .skipping ∨ ∃ received damaged, r = .receiving received damaged

/-- The laws that the part keeps while it runs. -/
structure State.Law (s : State) : Prop where
  streams : ∀ t, (s.stream t).Law t s.carrier
  /-- R7: the map holds exactly one entry for each stream that is not CLOSED, under its drain tag. -/
  map : ∀ d t, s.mapped d = some t ↔ (s.stream t).state ≠ .closed ∧ (s.stream t).config.drainTag = d
  cells : s.CellLaw
  records : s.RecordLaw
  /-- R35: a stream's occupancy is the cells of its resident frames and of its frame in reception. -/
  occupancy : ∀ t, (s.stream t).occupancy = cellsOf (s.stream t).queue + s.fillingCells t
  /-- R27: the record in reception has no serial yet. -/
  filling : ∀ r, s.fillingRecord = some r → r.serial = none ∧ r.Law
  transmission : s.TransmissionLaw
  /-- R102, R107: a frame is in transmission on the drain link only while the carrier is UP. -/
  sending : s.drainTx ≠ none → s.carrier = .up
  /-- R106, R121: a frame is in reception on the drain link, or its rest skipped, only while the carrier is UP. -/
  reception : s.drainRx.Taken → s.carrier = .up
  /-- R102, R103: while the part follows the CARRIER pin, the carrier is DOWN exactly while the pin is absent. -/
  pin : s.Awake → (s.carrierPin = true ↔ s.carrier ≠ .down)
  forwardNote : s.ForwardNoteLaw
  backNote : s.BackNoteLaw
  slots : SlotsInOrder s.slots
  /-- R147: while the engine may take a request, none waits with no slot EXECUTING. -/
  engine : s.resetPending = false → s.slots.any Slot.isExecuting = false → ∀ x ∈ s.slots, ∃ r, x = .answering r
  /-- R148: the RESPONSE in transmission is that of the oldest ANSWERING slot. -/
  response : ∀ r, s.feedTx = some (.response r) → oldestAnswer s.slots = some r
  /-- R90, R102: what is due fell due at the last tick (log 2). -/
  atTick : s.tickOwes = true → s.atTick = true

/-- The part held in reset keeps no law of its blocks: they are rebuilt whole at the device reset (R162). -/
def State.Lawful (s : State) : Prop := s.phase = .running → s.Law

/-! ### What is owed (R90, R102, R112, R170) -/

/-- Nothing is owed: no timer is due and no carrier has settled (logs 3 and 4), no command can still fall together with the last tick
(log 2), and neither arbiter has anything to decide. -/
abbrev State.Quiet (s : State) : Prop :=
  (∀ t : Tag, (s.stream t).timer ≠ .due) ∧ s.carrier ≠ .settled ∧ s.atTick = false ∧ s.drainDecision = none ∧
    s.feedDecision = none

/-- The part runs with RESET_N high, and nothing is owed. -/
abbrev State.Ready (s : State) : Prop := s.Awake ∧ s.Quiet

/-- The second state is reached from the first by the part's own steps alone. -/
inductive OwnSteps : State → State → Prop where
  | none (s : State) : OwnSteps s s
  | cons {s t u : State} (c : Instr) : c.ownStep = true → exec c s = .next t → OwnSteps t u → OwnSteps s u

/-! ### Words that the statements use -/

/-- The rows of R4's table: class, window, ack timeout, replay budget, high and low watermark, cell limit. -/
def profileRow (prof1 prof0 : Bool) : StreamClass × Nat × Nat × Nat × Nat × Nat × Nat :=
  match prof1, prof0 with
  | false, false => (2, 32, 50, 4, 256, 128, 384)
  | false, true => (1, 64, 100, 8, 512, 256, 768)
  | true, false => (3, 16, 250, 2, 128, 32, 192)
  | true, true => (0, 8, 25, 15, 64, 16, 96)

/-- R42, R175: the conditions under which a feed header is malformed, as the tables give them. -/
def Header.MalformedOnFeed (h : Header) : Prop :=
  h.kind ∉ [0x01#8, 0x21#8, 0x22#8, 0x31#8] ∨
    (h.kind = 0x01#8 ∧ (h.tag.toNat = 0 ∨ 63 < h.tag.toNat)) ∨ (h.kind ≠ 0x01#8 ∧ h.tag ≠ 0#8) ∨
    4096 ≤ h.serial.toNat ∨
    (h.kind = 0x01#8 ∧ (h.length.toNat = 0 ∨ 2048 < h.length.toNat)) ∨
    (h.kind = 0x31#8 ∧ (h.length.toNat < 3 ∨ 64 < h.length.toNat)) ∨
    (h.kind = 0x21#8 ∧ (h.length.toNat = 0 ∨ 65 < h.length.toNat)) ∨
    (h.kind = 0x22#8 ∧ h.length.toNat ≠ 1)

/-- R40, R41: the bytes of a feed frame since its start marker once these symbols have come, and whether one of them could not be
decoded; `none` where the receiver awaits no header. Undecodable bytes take free values (log 16). -/
def State.sinceStart (s : State) (symbols : List LaneSymbol) : Option (List Byte × Bool) :=
  match s.feedRx with
  | .awaitStart => some (s.arrived symbols, undecodedIn symbols != 0)
  | .header received damaged => some (received ++ s.arrived symbols, damaged || undecodedIn symbols != 0)
  | .storing _ _ _ _ => none
  | .staging _ _ _ _ => none
  | .skipping _ => none

/-- R50, R174: the lane bytes after the header of an undamaged frame: its payload and then its check word. -/
def goodBytes (running : CheckWord) (payload : List Byte) : List LaneByte :=
  (payload ++ checkWordBytes (checkOutput (checkBytes running payload))).map LaneByte.data

/-- R57: an undamaged frame of a kind, with this payload, ends in STAGING. -/
def State.StagedFrame (s : State) (kind : Byte) (symbols : List LaneSymbol) (payload : List Byte) : Prop :=
  s.Ready ∧ ∃ header received running, s.feedRx = .staging header received running false ∧ header.kind = kind ∧
    payload.length = header.length.toNat ∧ received.map LaneByte.data ++ laneBytes symbols = goodBytes running payload

/-- R165, R166: the event block after an event is raised under these settings. -/
def Settings.record (x : Settings) (b : EventBlock) (e : EventRecord) : EventBlock :=
  if x.enables e.kind then b.store e else b

/-- R36, R38: in the step from s to t, the pool state and its event follow the free-cell count; `queued` is the event block
before the pool event. -/
def PoolFollows (s t : State) (queued : EventBlock) : Prop :=
  let free := t.pool.freeCells.length
  let after :=
    match s.pool.level with
    | .normal => if free < s.settings.reserve then PoolLevel.low else .normal
    | .low => if s.settings.reserve + s.settings.hysteresis ≤ free then PoolLevel.normal else .low
  if free = s.pool.freeCells.length ∨ after = s.pool.level then t.pool.level = s.pool.level ∧ t.events = queued
  else
    t.pool.level = after ∧
      t.events = s.settings.record queued
        { kind := if after = .low then .poolLow else .poolNormal, detail := BitVec.ofNat 16 free }

/-- R126, R127: a stream's flow state after its occupancy moves. -/
def Stream.flowAt (x : Stream) (occupancy : Nat) : FlowState :=
  if occupancy = x.occupancy then x.flow
  else
    match x.flow with
    | .go => if x.config.highWatermark ≤ occupancy then FlowState.paused else .go
    | .paused => if occupancy ≤ x.config.lowWatermark then FlowState.go else .paused

/-- R33, R34: in the step from s to t these records are released: those not in transmission go back to the pool, oldest first,
and the one in transmission loses its mark. -/
def ReleasedTo (s t : State) (gone : List FrameRecord) : Prop :=
  t.pool.freeCells = s.pool.freeCells ++ (gone.filter fun r => !s.sending r.number).flatMap (fun r => r.chain) ∧
    t.pool.freeRecords = s.pool.freeRecords ++ (gone.filter fun r => !s.sending r.number).map (fun r => r.number) ∧
    t.drainTx = if gone.any fun r => s.sending r.number then s.drainTx.map DrainTransmission.unmark else s.drainTx

/-- Every stream but one keeps its record. -/
def OtherStreams (s t : State) (u : Tag) : Prop := ∀ v, v ≠ u → t.stream v = s.stream v

/-- Every entry of the drain-tag map but one stays as it is. -/
def OtherEntries (s t : State) (d : DrainTag) : Prop := ∀ c, c ≠ d → t.mapped c = s.mapped c

/-- R13, R182: the STREAM-CLOSED record of a stream whose pointers stand at a serial. -/
def closedRecord (t : Tag) (x : Stream) (serial : Serial) (detail : BitVec 16) : EventRecord :=
  { kind := .streamClosed, streamTag := BitVec.ofNat 8 t.number, drainTag := BitVec.ofNat 8 x.config.drainTag.val
    serial := serial.setWidth 16, detail := detail }

/-- R14, R182: the STREAM-HALTED record of a stream. -/
def haltedRecord (t : Tag) (x : Stream) (detail : BitVec 16) : EventRecord :=
  { kind := .streamHalted, streamTag := BitVec.ofNat 8 t.number, drainTag := BitVec.ofNat 8 x.config.drainTag.val
    serial := x.head.setWidth 16, detail := detail }

/-- R9, R106: a good frame of this drain tag that ends in s is handed to stream t: the part runs with RESET_N high, the carrier is UP, and
the map names t. -/
def State.Routes (s : State) (d : Byte) (t : Tag) : Prop :=
  s.Awake ∧ s.carrier = .up ∧ ∃ h : d.toNat < 255, s.mapped ⟨d.toNat, h⟩ = some t

/-- R9, R123: a good frame that ends in s has a drain tag without an entry. -/
def State.Strays (s : State) (d : Byte) : Prop :=
  s.Awake ∧ s.carrier = .up ∧ ∃ h : d.toNat < 255, s.mapped ⟨d.toNat, h⟩ = none

/-- R50: the address of the i-th payload byte of a frame in its cell chain. -/
def storeAddress (chain : List Nat) (i : Nat) : Option Nat := chain[i / 64]?.map fun c => 64 * c + i % 64

/-- R49, R50: where the bytes since a start marker make a DATA header that is admitted, the chain that it reserves, and how many
payload bytes have come with it. -/
def State.storesAtHeader (s : State) (bytes : List Byte) : List Nat × Nat :=
  let length := (headerOf bytes).length.toNat
  match feedKind? (headerOf bytes) with
  | some (.data t) =>
      if s.admission t (cellsFor length) = .admitted then
        (s.pool.freeCells.take (cellsFor length), min length (bytes.length - 10))
      else ([], 0)
  | some .staged => ([], 0)
  | none => ([], 0)

/-- R50: the chain that a command writes payload into, and how many bytes it stores there, in the state that it finds. -/
def State.storesBytes (s : State) : Instr → List Nat × Nat
  | .feedHeader symbols =>
      match s.sinceStart symbols with
      | some (bytes, _) => if s.Awake ∧ 6 ≤ bytes.length then s.storesAtHeader bytes else ([], 0)
      | none => ([], 0)
  | .dataFrameEnd symbols =>
      match s.feedRx with
      | .storing r received _ _ =>
          if s.Awake then (r.chain, min r.length (received.length + (laneBytes symbols).length - 4)) else ([], 0)
      | _ => ([], 0)
  | .feedFrameCutShort _ symbols =>
      match s.feedRx with
      | .storing r received _ _ =>
          if s.Awake then (r.chain, min r.length (received.length + (laneBytes symbols).length)) else ([], 0)
      | _ => ([], 0)
  | _ => ([], 0)

/-- R139: an indication record after one more event of its kind. -/
def afterEvent (r : Option Indication) (number : Byte) : Option Indication :=
  match r with
  | none => some { number := number, count := 1 }
  | some i => some { number := number, count := if i.count < 255 then i.count + 1 else 255 }

/-- R80, R81: in the step from s to u the first k frames of stream t are released; `after` is the stream's record with its pointers,
budget, timer and counters as the step leaves them. A DRAINING stream left without frames closes with STREAM-CLOSED. -/
def ReleaseStep (s u : State) (t : Tag) (k : Nat) (after : Stream) (outcome : BitVec 16) : Prop :=
  let x := s.stream t
  let gone := x.queue.take k
  let rest := x.queue.drop k
  let occupancy := x.occupancy - cellsOf gone
  ReleasedTo s u gone ∧ OtherStreams s u t ∧
    (if x.state = .draining ∧ rest = [] then
      u.stream t = { after with
        queue := rest, occupancy := occupancy, state := .closed, held := false, timer := .idle, closeRequested := false
        flow := .go } ∧
      u.mapped x.config.drainTag = none ∧ OtherEntries s u x.config.drainTag ∧
      PoolFollows s u (s.settings.record s.events (closedRecord t x after.tail outcome))
    else
      u.stream t = { after with queue := rest, occupancy := occupancy, flow := x.flowAt occupancy } ∧
      u.drainMap = s.drainMap ∧ PoolFollows s u s.events) ∧
    u = { s with streams := u.streams, drainMap := u.drainMap, pool := u.pool, drainTx := u.drainTx, events := u.events }

/-- R12: OPEN or DRAINING. -/
abbrev Stream.Live (x : Stream) : Prop := x.state = .opened ∨ x.state = .draining

/-- R121, R175: the conditions under which a drain-link header is malformed, as the tables give them. -/
def Header.MalformedOnDrain (h : Header) : Prop :=
  h.kind ∉ [0x11#8, 0x12#8, 0x13#8, 0x14#8, 0x21#8, 0x22#8] ∨
    (h.kind ∈ [0x11#8, 0x12#8] ∧ h.tag = 255#8) ∨ (h.kind ∈ [0x21#8, 0x22#8] ∧ h.tag ≠ 0#8) ∨
    4096 ≤ h.serial.toNat ∨
    (h.kind ∈ [0x11#8, 0x12#8, 0x13#8, 0x14#8] ∧ h.length.toNat ≠ 0) ∨
    (h.kind = 0x21#8 ∧ (h.length.toNat = 0 ∨ 65 < h.length.toNat)) ∨
    (h.kind = 0x22#8 ∧ h.length.toNat ≠ 1)

/-! ### The drain arbiter's choice (R113 to R116) -/

/-- R114: a stream is eligible for DATA, but for the carrier. -/
def Stream.Eligible (x : Stream) : Prop :=
  x.Live ∧ x.held = false ∧ x.cursor ≠ x.tail ∧ Serial.distance x.head x.cursor < x.config.window

/-- R114: stream t is eligible and of class c. -/
def State.EligibleIn (s : State) (t : Tag) (c : StreamClass) : Prop :=
  (s.stream t).Eligible ∧ (s.stream t).config.streamClass = c

/-- R115: class c is the one to serve, and these are the credits from which the start is paid. -/
def State.ServesClass (s : State) (c : StreamClass) (credits : ClassWeights) : Prop :=
  let waits := fun d => ∃ t, s.EligibleIn t d
  (c = 0 ∧ credits = s.credits) ∨
    (c ≠ 0 ∧ ¬ waits 0 ∧ 0 < s.credits.ofClass c ∧ (∀ d, d ≠ 0 → d < c → waits d → s.credits.ofClass d = 0) ∧
      credits = s.credits) ∨
    (c ≠ 0 ∧ ¬ waits 0 ∧ (∀ d, d ≠ 0 → waits d → s.credits.ofClass d = 0) ∧ (∀ d, d ≠ 0 → d < c → ¬ waits d) ∧
      credits = s.settings.weights)

/-- R116, R132: how many tags a search that begins after a position tries before tag t. -/
def searchTurns (position t : Tag) : Nat := (t.number + 62 - position.number) % 63

/-- R115, R116: the arbiter's choice among the DATA streams. -/
def State.ServesStream (s : State) (t : Tag) (c : StreamClass) (credits : ClassWeights) : Prop :=
  s.EligibleIn t c ∧ s.ServesClass c credits ∧
    ∀ v, s.EligibleIn v c → v ≠ t → searchTurns (s.positions.ofClass c) t < searchTurns (s.positions.ofClass c) v

/-- R113: neither an indication toward the consumer nor the forward note waits. -/
def State.NoNoteWaits (s : State) : Prop :=
  s.notes.doneToConsumer = none ∧ s.notes.refusedToConsumer = none ∧ ∀ n, s.notes.forward ≠ .waiting n

/-- R112: the drain arbiter may decide. -/
def State.DrainFree (s : State) : Prop := s.Awake ∧ s.drainTx = none ∧ s.carrier = .up

/-! ### The feed arbiter's choice (R132, R170) -/

/-- R170: the feed arbiter may decide. -/
def State.FeedFree (s : State) : Prop := s.Awake ∧ s.feedTx = none

/-- R132: no FLOW indication is pending. -/
def State.NoFlowPending (s : State) : Prop := s.pool.level = s.sentPool ∧ ∀ t, (s.stream t).flow = (s.stream t).sentFlow

/-- R132: the FLOW indication to send: the pool's, else that of the first stream in tag order after the flow position. -/
def State.SendsFlow (s : State) (i : FlowIndication) : Prop :=
  let waits := fun t : Tag => (s.stream t).flow ≠ (s.stream t).sentFlow
  (s.pool.level ≠ s.sentPool ∧ i = if s.pool.level = .low then .poolPause else .poolGo) ∨
    (s.pool.level = s.sentPool ∧ ∃ t, waits t ∧
      (∀ v, waits v → v ≠ t → searchTurns s.flowPosition t < searchTurns s.flowPosition v) ∧
      i = if (s.stream t).flow = .paused then .pause t else .go t)

/-- R170: what the feed arbiter takes, in its order: FLOW, NOTE-DONE and NOTE-REFUSED toward the producer, the oldest RESPONSE, the back
note, the oldest event with the lost-event count. -/
def State.FeedSends (s : State) : FeedFrame → Prop
  | .flow i => s.SendsFlow i
  | .noteDone i => s.NoFlowPending ∧ s.notes.doneToProducer = some i
  | .noteRefused i => s.NoFlowPending ∧ s.notes.doneToProducer = none ∧ s.notes.refusedToProducer = some i
  | .response a => s.NoFlowPending ∧ s.notes.doneToProducer = none ∧ s.notes.refusedToProducer = none ∧
      ∃ before after, s.slots = before ++ .answering a :: after ∧ ∀ b, .answering b ∉ before
  | .note n => s.NoFlowPending ∧ s.notes.doneToProducer = none ∧ s.notes.refusedToProducer = none ∧
      (∀ a, .answering a ∉ s.slots) ∧ s.notes.back = .waiting n
  | .event e lost => s.NoFlowPending ∧ s.notes.doneToProducer = none ∧ s.notes.refusedToProducer = none ∧
      (∀ a, .answering a ∉ s.slots) ∧ (∀ n, s.notes.back ≠ .waiting n) ∧ s.events.queue.head? = some e ∧
      lost = s.events.lost

/-- R171: the command that starts a frame on the feed link. -/
def FeedFrame.starter : FeedFrame → Instr
  | .flow _ => .flowFrameStart
  | .noteDone _ => .feedIndicationStart
  | .noteRefused _ => .feedIndicationStart
  | .response _ => .responseStart
  | .note _ => .backNoteStart
  | .event _ _ => .eventFrameStart

/-! ### Requests (R145 to R152) -/

/-- R145, R147: the part runs, nothing is owed, and the request r is EXECUTING behind these answered requests and ahead of these
queued ones. -/
def State.Executing (s : State) (r : Request) (answered : List Response) (queued : List Request) : Prop :=
  s.phase = .running ∧ s.Quiet ∧ s.slots = answered.map Slot.answering ++ .executing r :: queued.map Slot.queued

/-- R147: the slots after the effect step: the request is answered, and the oldest queued one is taken unless a reset is pending. -/
def answeredSlots (answered : List Response) (a : Response) (queued : List Request) (resetPending : Bool) : List Slot :=
  answered.map Slot.answering ++ .answering a ::
    match queued with
    | [] => []
    | q :: rest => (if resetPending then .queued q else .executing q) :: rest.map Slot.queued

/-- R149: the RESPONSE to a request. -/
def Request.response (r : Request) (status : Status) (result : List Byte) : Response :=
  { number := r.number, command := r.command, target := r.target, status := status, result := result }

/-- R173: a number in two bytes, most significant first. -/
def twoBytes (n : Nat) : List Byte := [BitVec.ofNat 8 (n / 256), BitVec.ofNat 8 n]

/-- R173: a counter in four bytes, most significant first. -/
def fourBytes (c : Counter) : List Byte :=
  [BitVec.ofNat 8 (c.toNat / 16777216), BitVec.ofNat 8 (c.toNat / 65536), BitVec.ofNat 8 (c.toNat / 256), BitVec.ofNat 8 c.toNat]

/-- R173, R174: a frame between its markers: KIND, TAG, SERIAL, LENGTH, the payload, and the check word over all of them. -/
def framed (kind tag : Byte) (serial : Nat) (payload : List Byte) : List Byte :=
  let covered := [kind, tag] ++ twoBytes serial ++ twoBytes payload.length ++ payload
  covered ++ checkWordBytes (checkOutput (checkBytes checkInitial covered))

/-! ### Frames on the drain link (R106, R121) -/

/-- Where a part of a good frame begins and ends. -/
def partExtent : FramePart → Extent
  | .whole => { opens := true, ends := some .finish }
  | .opening _ => { opens := true, ends := none }
  | .closing => { opens := false, ends := some .finish }

/-- Where the portion of a drain-link frame that a command brings begins and ends. -/
def returnExtent : Instr → Option Extent
  | .ack part _ => some (partExtent part)
  | .replay part _ => some (partExtent part)
  | .hold frame => some (partExtent frame.1)
  | .resume frame => some (partExtent frame.1)
  | .consumerNote part _ => some (partExtent part)
  | .consumerNoteTaken frame => some (partExtent frame.1)
  | .drainFrameDropped extent _ => some extent
  | .returnFrameDiscarded portion => some portion.extent
  | _ => none

/-- R173, R175, R183: the part of a good frame that a command brings, and the bytes of that frame between its markers. -/
def returnFrame : Instr → Option (FramePart × List Byte)
  | .ack part x => some (part, framed 0x11#8 x.drainTag x.serial.toNat [])
  | .replay part x => some (part, framed 0x12#8 x.drainTag x.serial.toNat [])
  | .hold (part, x) => some (part, framed 0x13#8 x.drainTag x.serial.toNat [])
  | .resume (part, x) => some (part, framed 0x14#8 x.drainTag x.serial.toNat [])
  | .consumerNote part x => some (part, framed 0x21#8 0#8 x.serial.toNat (x.number :: x.payload))
  | .consumerNoteTaken (part, x) => some (part, framed 0x22#8 0#8 x.serial.toNat [x.number])
  | _ => none

/-- R121: the port counters once a start marker has come: it cuts a frame in reception short. -/
def State.portAtStart (s : State) : PortCounters :=
  match s.drainRx with
  | .receiving _ _ => { s.port with drainMalformed := s.port.drainMalformed + 1#32 }
  | _ => s.port

/-- R106, R121: the receiver once a start marker has come. -/
def State.receiverAtStart (s : State) : DrainReceiver := if s.carrier = .up then .receiving [] false else .discarding

/-- R121: while the carrier is UP, the bytes of the frame in reception since its start marker once these symbols have come, and whether one
of them could not be decoded; `none` where no frame is in reception. Undecodable bytes take free values (log 16). -/
def State.returnSoFar (s : State) (opens : Bool) (symbols : List LaneSymbol) : Option (List Byte × Bool) :=
  if opens then some (s.arrived symbols, undecodedIn symbols != 0)
  else
    match s.drainRx with
    | .receiving received damaged => some (received ++ s.arrived symbols, damaged || undecodedIn symbols != 0)
    | _ => none

/-- R121, R122: with a part of it, a good frame of these bytes ends in reception and is taken; the block that it is routed to acts on a.
The frame's first bytes, if they have come before, are those held. -/
def State.TakesReturn (s : State) (part : FramePart) (frame : List Byte) (a : State) : Prop :=
  s.found.Awake ∧ s.found.carrier = .up ∧
    match part with
    | .whole => a = { s.found with drainRx := .awaitStart, port := s.found.portAtStart }
    | .opening _ => False
    | .closing => (∃ received, s.found.drainRx = .receiving received false ∧ received <+: frame) ∧
        a = { s.found with drainRx := .awaitStart }

/-- R178: the status values. -/
def Status.value : Status → Byte
  | .ok => 0x00#8
  | .accepted => 0x01#8
  | .badCommand => 0x10#8
  | .badTag => 0x11#8
  | .badValue => 0x12#8
  | .badState => 0x13#8
  | .conflict => 0x14#8

/-- R182: the event kinds' values. -/
def EventKind.value : EventKind → Byte
  | .deviceStarted => 0x01#8
  | .streamHalted => 0x02#8
  | .streamClosed => 0x03#8
  | .timeoutReplay => 0x04#8
  | .overrun => 0x05#8
  | .ackAhead => 0x06#8
  | .replayAhead => 0x07#8
  | .strayReturn => 0x08#8
  | .carrierLost => 0x09#8
  | .carrierUp => 0x0A#8
  | .poolLow => 0x0B#8
  | .poolNormal => 0x0C#8
  | .requestLost => 0x0D#8

/-- R2: the ranges of a configuration and the relations between its fields. -/
def StreamConfig.Valid (c : StreamConfig) : Prop :=
  1 ≤ c.window ∧ c.window ≤ 256 ∧ 1 ≤ c.ackTimeout ∧ c.ackTimeout ≤ 4095 ∧ c.replayBudget ≤ 15 ∧
    1 ≤ c.highWatermark ∧ c.highWatermark ≤ 8192 ∧ c.lowWatermark ≤ 8191 ∧ 1 ≤ c.cellLimit ∧ c.cellLimit ≤ 8192 ∧
    c.lowWatermark < c.highWatermark ∧ c.highWatermark ≤ c.cellLimit

/-- R180: the stream configuration block. -/
def StreamConfig.block (c : StreamConfig) : List Byte :=
  [BitVec.ofNat 8 c.drainTag.val, BitVec.ofNat 8 c.streamClass.val] ++ twoBytes c.window ++ twoBytes c.ackTimeout ++
    [BitVec.ofNat 8 c.replayBudget] ++ twoBytes c.highWatermark ++ twoBytes c.lowWatermark ++ twoBytes c.cellLimit

/-- R153, R155: the ranges of a settings record, and its event mask. -/
def Settings.Valid (x : Settings) : Prop :=
  x.reserve ≤ 4096 ∧ x.hysteresis ≤ 1024 ∧ (1 ≤ x.weights.class1 ∧ x.weights.class1 ≤ 16) ∧
    (1 ≤ x.weights.class2 ∧ x.weights.class2 ≤ 16) ∧ (1 ≤ x.weights.class3 ∧ x.weights.class3 ≤ 16) ∧
    x.enables .deviceStarted = true ∧ x.eventMask.toNat < 8192 ∧ 1 ≤ x.settleTime ∧ x.settleTime ≤ 255

/-- R181: the settings record. -/
def Settings.layout (x : Settings) : List Byte :=
  twoBytes x.reserve ++ twoBytes x.hysteresis ++
    [BitVec.ofNat 8 x.weights.class1, BitVec.ofNat 8 x.weights.class2, BitVec.ofNat 8 x.weights.class3] ++
    twoBytes x.eventMask.toNat ++ [BitVec.ofNat 8 x.settleTime]

/-- R151: the target tag is valid for the command. -/
def Request.GoodTarget (r : Request) : Prop :=
  match r.command.toNat with
  | 4 | 5 | 6 | 7 | 8 | 9 => 1 ≤ r.target.toNat ∧ r.target.toNat ≤ 63
  | 10 => r.target.toNat ≤ 63
  | _ => r.target.toNat = 0

/-- R152, R177: the parameter bytes have the command's form and lie in range. -/
def Request.GoodParameters (r : Request) : Prop :=
  match r.command.toNat with
  | 3 => ∃ x : Settings, x.Valid ∧ r.parameters = x.layout
  | 5 => ∃ c : StreamConfig, c.Valid ∧ r.parameters = c.block
  | 6 | 8 => r.parameters = [] ∨ ∃ n, n < 4096 ∧ r.parameters = twoBytes n
  | 7 | 10 | 11 => r.parameters = [0#8] ∨ r.parameters = [1#8]
  | _ => r.parameters = []

/-- R18 to R23, R82: the state of the target stream does not permit the request. -/
def Request.BadStateFor (r : Request) (x : Stream) : Prop :=
  match r.command.toNat with
  | 5 => x.state ≠ .closed ∧ r.parameters.head? ≠ some (BitVec.ofNat 8 x.config.drainTag.val)
  | 6 => x.state ≠ .closed
  | 7 => x.state = .closed ∨ (r.parameters = [0#8] ∧ x.state ≠ .opened)
  | 8 => x.state = .closed
  | 9 => x.state ≠ .halted
  | _ => False

/-- R176: the row that takes the effect step of a request. A CLOSE-STREAM whose mode is neither DRAIN nor DISCARD is refused by
either of its rows (log 20). -/
def Request.TakenBy (r : Request) (c : Instr) : Prop :=
  match r.command.toNat with
  | 1 => c = .identify
  | 2 => c = .readSettings
  | 3 => c = .writeSettings
  | 4 => c = .readStream
  | 5 => c = .writeStream
  | 6 => c = .openStream
  | 7 => (c = .closeStreamDrain ∧ r.parameters ≠ [1#8]) ∨ (c = .closeStreamDiscard ∧ r.parameters ≠ [0#8])
  | 8 => c = .flushStream
  | 9 => c = .restartStream
  | 10 => c = .readCounters
  | 11 => c = .clearNote
  | 12 => c = .discardAll
  | 13 => c = .resetDevice
  | _ => c = .unknownCommand

end Sys2Proof.Machine
end

