-- ==== Sys2Proof/Certificates/Slice0/Obligations.lean ====
section
/-!
DEFINITION. The statements for the provers. Each docstring names the rules of spec/ that it formalises. Where a statement takes a state
that is `Quiet` or `Ready`, nothing is owed in it; where it speaks of `found`, it holds in every state. `OwedStepsComeFirst` says what a
command finds (logs 1 to 4).
-/

open Sys2Proof Sys2Proof.Machine

/-! ### The queue of commands -/

/-- A step with a command at the front of the queue is `exec` of that command on the state with the queue's rest; with no command
waiting the part idles (the idling is the model's choice, log 22). -/
def Obligations.StepRunsFrontCommand : Prop :=
  ∀ (c : Instr) (rest : List Instr) (s : State),
    step { s with pending := c :: rest } = exec c { s with pending := rest } ∧
    step { s with pending := [] } = .next { s with pending := [] }

/-- No command changes the queue of waiting commands, and none reads it: the queue can be exchanged before or after. -/
def Obligations.ExecLeavesQueue : Prop :=
  ∀ (c : Instr) (s t : State), exec c s = .next t →
    t.pending = s.pending ∧ ∀ q, exec c { s with pending := q } = .next { t with pending := q }

/-- R90, R92, R112, R162, R170: what is owed is done before anything else is taken. A tick, power and RESET_N act on the state that
`settle` leaves, and every other command that is not one of the part's own steps on the state that it finds: the first one after a tick
that made something due comes behind the expiries and the end of settling, and before the decisions that are left (R112: an event taken
before a decision is seen by it); any other one comes behind all that is owed. A stop that comes after the tick thus finds no timer due. In a
lawful state the part's own steps reach what `settle` leaves, and nothing is owed there. That each own step is a command, which one
falls together with a tick, and in which order `settle` takes those that fall together, are the model's form (logs 1, 2, 3 and 4). -/
def Obligations.OwedStepsComeFirst : Prop :=
  ∀ (s : State),
    let alone := fun c : Instr => c = .tick ∨ (∃ high, c = .powerUp high) ∨ (∃ pulse, c = .resetNLow pulse) ∨
      ∃ straps, c = .deviceReset straps
    (∀ c : Instr, alone c → exec c s = exec c s.settle) ∧
    (∀ c : Instr, c.ownStep = false → ¬ alone c →
      (s.phase = .running → s.atTick = false → exec c s = exec c s.settle) ∧
      ∀ u : State, u.found = s.found → exec c u = exec c s) ∧
    (s.phase = .inReset ∨ s.Quiet → s.settle = s ∧ s.found = s) ∧
    (s.phase = .running → s.atTick = true → s.found.tickOwes = false ∧ s.found.feedTx = s.feedTx ∧ s.found.drainTx = s.drainTx ∧
      ∃ u, OwnSteps s u ∧ s.found = { u with atTick := false }) ∧
    (s.InRange → s.Lawful → s.phase = .running →
      s.settle.Quiet ∧ ∃ u, OwnSteps s u ∧ s.settle = { u with atTick := false })

/-! ### Power, RESET_N and device reset -/

/-- R162: power-on and a low pulse of at least 1 µs hold the part in reset: both links are silent, the frame in reception is abandoned
uncounted on either link, ATTN_N is high, and nothing else is touched until the device reset. While it is held the part takes no input from
either link, its tick does not run, and it does not follow the CARRIER pin. That the blocks keep what they hold until the device reset, and
what a command does to a part held in reset, are the model's reading (logs 7, 8 and 9). -/
def Obligations.PowerAndLowPulseHoldThePart : Prop :=
  ∀ (s : State),
    (∀ c : Instr, (∃ high, c = .powerUp high) ∨ c = .resetNLow .atLeast1us → s.phase = .inReset ∨ s.Quiet →
      ∃ t, exec c s = .next t ∧ t.phase = .inReset ∧ t.feedTx = none ∧ t.drainTx = none ∧ t.feedRx = .awaitStart ∧
        t.drainRx = .awaitStart ∧ t.attnN = true ∧ (c = .resetNLow .atLeast1us → t.resetPin = .low) ∧
        t = { s with phase := .inReset, resetPin := t.resetPin, feedTx := none, drainTx := none, feedRx := .awaitStart
                     drainRx := .awaitStart }) ∧
    (s.phase = .inReset →
      (∀ c : Instr, c.origin = .feedLink ∨ c.origin = .drainLink → exec c s = .next s) ∧
      exec .tick s = .next s ∧
      exec .carrierPresent s = .next { s with carrierPin := true } ∧
      exec .carrierAbsent s = .next { s with carrierPin := false })

/-- R162, R171, R184: a low pulse shorter than 1 µs. While RESET_N is low both links are silent, nothing is decided and no transmission
ends, no input is taken, the part does not follow CARRIER, and ATTN_N is high; at the rising edge the part either performs a complete
device reset or carries on as if the pulse had not occurred. The free value `shortPulseResets` says which, at that edge (log 10). -/
def Obligations.ShortPulseResetsOrCarriesOn : Prop :=
  ∀ (s : State), s.Ready →
    let t := { s with resetPin := .lowShort }
    exec (.resetNLow .under1us) s = .next t ∧ t.attnN = true ∧ t.feedBytes = none ∧ t.drainBytes = none ∧
    (∀ c : Instr, c.origin = .feedLink ∨ c.origin = .drainLink → exec c t = .next t) ∧
    (∀ c : Instr, (∃ straps, c = .responseComplete straps) ∨
        c ∈ [.dataTransmissionStart, .dataTransmissionComplete, .forwardNoteStart, .forwardNoteComplete, .drainIndicationStart,
          .drainIndicationComplete, .flowFrameStart, .feedIndicationStart, .responseStart, .backNoteStart, .eventFrameStart,
          .backNoteComplete, .feedFrameComplete] →
      ∃ mnemonic, exec c t = .refused (.notPossible mnemonic)) ∧
    exec .carrierPresent t = .next { t with carrierPin := true } ∧
    exec .carrierAbsent t = .next { t with carrierPin := false } ∧
    ∀ straps : Straps,
      (Config.shortPulseResets s.freeCount = true →
        exec (.deviceReset straps) t = .next ({ s with freeCount := s.freeCount + 1 }.deviceReset straps)) ∧
      (Config.shortPulseResets s.freeCount = false → (s.carrierPin = true ↔ s.carrier ≠ .down) →
        exec (.deviceReset straps) t = .next { s with freeCount := s.freeCount + 1 })

/-- R160, R162: RESET-DEVICE is answered OK and sets the reset-pending mark, and nothing else changes; the completion of its RESPONSE
and the rising edge of RESET_N then perform the same device reset. The straps are operands (log 21); a rising edge with no low level
seen before it resets too (log 11). -/
def Obligations.DeviceResetCommands : Prop :=
  ∀ (s : State),
    (∀ (r : Request) (answered : List Response) (queued : List Request),
      s.Executing r answered queued → r.command = 0x0D#8 → r.target = 0#8 → r.parameters = [] →
      exec .resetDevice s = .next { s with
        resetPending := true, slots := answeredSlots answered (r.response .ok []) queued true }) ∧
    ∀ straps : Straps,
      (s.resetPin = .high → exec (.deviceReset straps) s = .next (s.deviceReset straps)) ∧
      (s.resetPin = .low → exec (.deviceReset straps) s = .next ({ s with resetPin := .high }.deviceReset straps)) ∧
      ∀ a : Response, s.Awake → s.feedTx = some (.response a) → s.resetPending = true → a.command = 0x0D#8 → a.status = .ok →
        exec (.responseComplete straps) s = .next (s.deviceReset straps)

/-- R4, R5, R6: the record of every stream and the drain-tag map after a device reset: drain tag t and the sampled profile's row;
with AUTOOPEN low every stream is CLOSED and the map is empty, with AUTOOPEN high every stream is OPEN at serial 0 under its own
drain tag, and the map holds 1 to 63. -/
def Obligations.DeviceResetStreams : Prop :=
  ∀ (s : State) (straps : Straps) (t : Tag),
    let x := (s.deviceReset straps).stream t
    (x.config.drainTag.val = t.number ∧
      (x.config.streamClass, x.config.window, x.config.ackTimeout, x.config.replayBudget, x.config.highWatermark,
        x.config.lowWatermark, x.config.cellLimit) = profileRow straps.prof1 straps.prof0) ∧
    (x.state = (if straps.autoopen then .opened else .closed) ∧ x.occupancy = 0 ∧ x.queue = [] ∧ x.head = 0#12 ∧
      x.cursor = 0#12 ∧ x.reach = 0#12 ∧ x.tail = 0#12 ∧ x.held = false ∧ x.flow = .go ∧ x.pendingFlow = none ∧
      x.overrunReported = false ∧ x.timer = .idle ∧ x.budget = x.config.replayBudget ∧ x.closeRequested = false ∧
      x.counters = { admitted := 0#32, refusedState := 0#32, refusedLimit := 0#32, refusedPool := 0#32, starts := 0#32,
                     resends := 0#32, timeouts := 0#32, peerReplays := 0#32, staleReturns := 0#32 }) ∧
    ∀ d : DrainTag, (s.deviceReset straps).mapped d =
      if straps.autoopen = true ∧ 1 ≤ d.val ∧ d.val ≤ 63 then Tag.ofNumber? d.val else none

/-- R39, R163: the pool after a device reset: all cells and all records free in ascending order, nothing in reception or in
transmission, the pool NORMAL; and the management engine: every slot FREE, the settings record and the port counters. -/
def Obligations.DeviceResetPoolAndManagement : Prop :=
  ∀ (s : State) (straps : Straps),
    let t := s.deviceReset straps
    (t.pool.freeCells = List.range 8192 ∧ t.pool.freeCells.length = 8192 ∧ t.pool.freeRecords = List.range 2048 ∧
      t.pool.freeRecords.length = 2048 ∧ (∀ n, n < 2048 → t.custody n = some .free) ∧ t.fillingRecord = none ∧
      t.drainTx = none ∧ t.deferredRecord = none ∧ t.pool.level = .normal) ∧
    t.slots = [] ∧ t.resetPending = false ∧
      t.settings = { reserve := 512, hysteresis := 128, weights := ⟨8, 4, 1⟩, eventMask := 0x17F7#16, settleTime := 50 } ∧
      t.port = { feedCheckErrors := 0#32, feedMalformed := 0#32, drainCheckErrors := 0#32, drainMalformed := 0#32,
                 drainStray := 0#32, noteStray := 0#32, requestsLost := 0#32 }

/-- R56, R103, R107, R116, R117, R121, R131, R132, R135, R162, R169, R172: the other blocks after a device reset. That the cells keep their
bytes is the model's choice (log 13). -/
def Obligations.DeviceResetOtherBlocks : Prop :=
  ∀ (s : State) (straps : Straps),
    let t := s.deviceReset straps
    t.phase = .running ∧ t.feedRx = .awaitStart ∧ t.drainRx = .awaitStart ∧ t.feedTx = none ∧
      t.carrier = (if s.carrierPin then .settling 50 else .down) ∧ t.carrierPin = s.carrierPin ∧
      t.credits = ⟨8, 4, 1⟩ ∧ (∀ c, (t.positions.ofClass c).number = 63) ∧ t.sentPool = .normal ∧ t.pendingPool = none ∧
      t.flowPosition.number = 63 ∧
      t.notes = { forward := .empty, back := .empty, doneToProducer := none, refusedToProducer := none,
                  doneToConsumer := none, refusedToConsumer := none } ∧
      t.events.lost = 0 ∧
      t.events.queue =
        [{ kind := .deviceStarted, streamTag := 0#8, drainTag := 255#8, serial := 0xFFFF#16,
           detail := BitVec.ofNat 16 (256 * straps.autoopen.toNat + 2 * straps.prof1.toNat + straps.prof0.toNat) }] ∧
      t.profile.val = 2 * straps.prof1.toNat + straps.prof0.toNat ∧ t.autoopen = straps.autoopen ∧
      (s.resetPin = .high → t.attnN = true) ∧ ∀ a, t.cells.read a = s.cells.read a

/-- R162, R169, R170: the decision that falls at the end of a device reset takes the EVENT frame that carries DEVICE-STARTED. Right after
the reset no other step of the part can be taken, and every other command finds that frame in transmission already, so it is the first
frame the part sends after every device reset. That the start is a command of its own is the model's form (log 1). -/
def Obligations.DeviceStartedIsFirstFrame : Prop :=
  ∀ (s : State) (straps : Straps), s.resetPin = .high →
    let r := s.deviceReset straps
    let t := { r with
      feedTx := some (.event
        { kind := .deviceStarted, streamTag := 0#8, drainTag := 255#8, serial := 0xFFFF#16,
          detail := BitVec.ofNat 16 (256 * straps.autoopen.toNat + 2 * straps.prof1.toNat + straps.prof0.toNat) } 0)
      events := { queue := [], lost := 0 } }
    exec .eventFrameStart r = .next t ∧
    (∀ c : Instr, c.ownStep = true → c ≠ .eventFrameStart → ∃ mnemonic, exec c r = .refused (.notPossible mnemonic)) ∧
    ∀ c : Instr, c.ownStep = false → exec c r = exec c t

/-! ### The feed link -/

/-- R40 to R43: bytes since a start marker that do not complete the header stay in HEADER. A complete header that is malformed is counted
in feed malformed and the frame is skipped; a valid one of kind REQUEST, NOTE or NOTE-TAKEN puts the receiver in STAGING with what has
come of its payload. Neither takes a cell or a record, and nothing else changes. Bytes that cannot be decoded take free values (R173,
log 16); how many bytes one command brings is the model's form (log 14). -/
def Obligations.FeedHeaderIsSkippedOrStaged : Prop :=
  ∀ (s : State) (symbols : List LaneSymbol) (bytes : List Byte) (damaged : Bool),
    s.Ready → s.sinceStart symbols = some (bytes, damaged) →
    let header := headerOf bytes
    let drawn := s.freeCount + undecodedIn symbols
    (bytes.length < 6 →
      exec (.feedHeader symbols) s = .next { s with feedRx := .header bytes damaged, freeCount := drawn }) ∧
    (6 ≤ bytes.length → header.MalformedOnFeed →
      exec (.feedHeader symbols) s = .next { s with
        feedRx := .skipping (bytes.length - 6)
        port := { s.port with feedMalformed := s.port.feedMalformed + 1#32 }
        freeCount := drawn }) ∧
    (6 ≤ bytes.length → ¬ header.MalformedOnFeed → header.kind ≠ 0x01#8 →
      exec (.feedHeader symbols) s = .next { s with
        feedRx := .staging header (bytes.drop 6) (checkBytes checkInitial (bytes.take 6)) damaged
        freeCount := drawn })

/-- R44 to R48: a valid DATA header for stream t that fails an admission test is counted once, by the first test that fails, and
skipped; the first cell-limit refusal of a run raises OVERRUN and sets the flag (R46). Nothing else changes. Logs 14 and 16 as above. -/
def Obligations.AdmissionRefusesInOrder : Prop :=
  ∀ (s : State) (symbols : List LaneSymbol) (bytes : List Byte) (damaged : Bool) (t : Tag),
    s.Ready → s.sinceStart symbols = some (bytes, damaged) → 6 ≤ bytes.length → ¬ (headerOf bytes).MalformedOnFeed →
    (headerOf bytes).kind = 0x01#8 → t.number = (headerOf bytes).tag.toNat →
    let x := s.stream t
    let n := ((headerOf bytes).length.toNat + 63) / 64
    let free := s.pool.freeCells.length
    let skipping := { s with feedRx := .skipping (bytes.length - 6), freeCount := s.freeCount + undecodedIn symbols }
    (x.state ≠ .opened →
      exec (.feedHeader symbols) s = .next (skipping.setStream t
        { x with counters := { x.counters with refusedState := x.counters.refusedState + 1#32 } })) ∧
    (x.state = .opened → x.config.cellLimit < x.occupancy + n → x.overrunReported = true →
      exec (.feedHeader symbols) s = .next (skipping.setStream t
        { x with counters := { x.counters with refusedLimit := x.counters.refusedLimit + 1#32 } })) ∧
    (x.state = .opened → x.config.cellLimit < x.occupancy + n → x.overrunReported = false →
      exec (.feedHeader symbols) s = .next { skipping.setStream t
        { x with
          counters := { x.counters with refusedLimit := x.counters.refusedLimit + 1#32 }
          overrunReported := true } with
        events := s.settings.record s.events
          { kind := .overrun, streamTag := BitVec.ofNat 8 t.number
            drainTag := BitVec.ofNat 8 x.config.drainTag.val, serial := x.tail.setWidth 16
            detail := BitVec.ofNat 16 x.occupancy } }) ∧
    (x.state = .opened → x.occupancy + n ≤ x.config.cellLimit →
      (2 ≤ x.config.streamClass.val ∧ free < s.settings.reserve + n) ∨ free < n ∨ s.pool.freeRecords = [] →
      exec (.feedHeader symbols) s = .next (skipping.setStream t
        { x with counters := { x.counters with refusedPool := x.counters.refusedPool + 1#32 } }))

/-- R29, R36, R49, R50, R126: a DATA header that passes every test reserves: the first n cells and the first record leave the free
lists, n joins the occupancy, flow state and pool state follow, and the receiver stores what has come of the payload, but for the last four
bytes, which may be the check word (the model's choice, log 15). Logs 14 and 16 as above. -/
def Obligations.AdmittedHeaderReserves : Prop :=
  ∀ (s : State) (symbols : List LaneSymbol) (bytes : List Byte) (damaged : Bool) (t : Tag) (number : Nat) (records : List Nat),
    s.Ready → s.sinceStart symbols = some (bytes, damaged) → 6 ≤ bytes.length → ¬ (headerOf bytes).MalformedOnFeed →
    (headerOf bytes).kind = 0x01#8 → t.number = (headerOf bytes).tag.toNat →
    let x := s.stream t
    let length := (headerOf bytes).length.toNat
    let n := (length + 63) / 64
    let chain := s.pool.freeCells.take n
    x.state = .opened → x.occupancy + n ≤ x.config.cellLimit →
    (x.config.streamClass.val < 2 ∨ s.settings.reserve + n ≤ s.pool.freeCells.length) → n ≤ s.pool.freeCells.length →
    s.pool.freeRecords = number :: records →
    ∃ u, exec (.feedHeader symbols) s = .next u ∧
      u.feedRx = .storing { number := number, stream := t, serial := none, length := length, chain := chain }
        (bytes.drop 6) (checkBytes checkInitial (bytes.take 6)) damaged ∧
      u.cells = s.cells.writeChain chain (((bytes.drop 6).take (bytes.length - 10)).take length) ∧
      u.pool.freeCells = s.pool.freeCells.drop n ∧ u.pool.freeRecords = records ∧
      u.stream t = { x with occupancy := x.occupancy + n, flow := x.flowAt (x.occupancy + n) } ∧
      OtherStreams s u t ∧ PoolFollows s u s.events ∧
      u = { s with feedRx := u.feedRx, cells := u.cells, pool := u.pool, streams := u.streams, events := u.events,
                   freeCount := s.freeCount + undecodedIn symbols }

/-- R31, R50, R51: a good DATA frame whose stream is OPEN at its end is stored in its chain and appended at the tail; occupancy,
flow state and pool stay as they are. -/
def Obligations.GoodDataFrameIsAppended : Prop :=
  ∀ (s : State) (symbols : List LaneSymbol) (record : FrameRecord) (received : List Byte) (running : CheckWord)
    (payload : List Byte),
    s.Ready → s.feedRx = .storing record received running false → payload.length = record.length →
    received.map LaneByte.data ++ laneBytes symbols = goodBytes running payload → (s.stream record.stream).state = .opened →
    let x := s.stream record.stream
    ∃ u, exec (.dataFrameEnd symbols) s = .next u ∧ u.feedRx = .awaitStart ∧
      u.cells = s.cells.writeChain record.chain payload ∧
      u.stream record.stream = { x with
        queue := x.queue ++ [{ record with serial := some x.tail }]
        tail := x.tail + 1#12
        overrunReported := false
        counters := { x.counters with admitted := x.counters.admitted + 1#32 } } ∧
      OtherStreams s u record.stream ∧
      u = { s with feedRx := .awaitStart, cells := u.cells, streams := u.streams }

/-- R30, R51, R173: a DATA frame that is refused at its end, for its byte count, then its check word (an undecodable byte fails
it; log 16), then its stream's state, gives its reservation back and is counted once. -/
def Obligations.RefusedDataFrameReturnsReservation : Prop :=
  ∀ (s : State) (symbols : List LaneSymbol) (record : FrameRecord) (received : List Byte) (running : CheckWord)
    (damaged : Bool),
    s.Ready → s.feedRx = .storing record received running damaged →
    let x := s.stream record.stream
    let values := received ++ s.arrived symbols
    let badCount := values.length ≠ record.length + 4
    let badCheck := damaged = true ∨ undecodedIn symbols ≠ 0 ∨
      values.drop record.length ≠ checkWordBytes (checkOutput (checkBytes running (values.take record.length)))
    let occupancy := x.occupancy - record.chain.length
    badCount ∨ badCheck ∨ x.state ≠ .opened →
    ∃ u, exec (.dataFrameEnd symbols) s = .next u ∧ u.feedRx = .awaitStart ∧
      u.pool.freeCells = s.pool.freeCells ++ record.chain ∧ u.pool.freeRecords = s.pool.freeRecords ++ [record.number] ∧
      u.stream record.stream = { x with
        occupancy := occupancy
        flow := if x.state = .closed then x.flow else x.flowAt occupancy
        counters := { x.counters with
          refusedState := x.counters.refusedState + if ¬ badCount ∧ ¬ badCheck then 1#32 else 0#32 } } ∧
      u.port = { s.port with
        feedMalformed := s.port.feedMalformed + if badCount then 1#32 else 0#32
        feedCheckErrors := s.port.feedCheckErrors + if ¬ badCount ∧ badCheck then 1#32 else 0#32 } ∧
      OtherStreams s u record.stream ∧ PoolFollows s u s.events ∧
      u = { s with feedRx := .awaitStart, cells := u.cells, pool := u.pool, streams := u.streams, port := u.port,
                   events := u.events, freeCount := s.freeCount + undecodedIn symbols }

/-- R28, R50: a frame whose byte count matches its declared length fills its chain exactly: reading `length` bytes along the chain
gives the payload in order. -/
def Obligations.StoredPayloadReadsBack : Prop :=
  ∀ (s : State) (symbols : List LaneSymbol) (record : FrameRecord) (received : List Byte) (running : CheckWord)
    (damaged : Bool) (payload check : List Byte),
    s.Ready → s.feedRx = .storing record received running damaged → s.cells.wf = true → record.chain.Nodup →
    record.chain.length = (record.length + 63) / 64 → payload.length = record.length → check.length = 4 →
    received.map LaneByte.data ++ laneBytes symbols = (payload ++ check).map LaneByte.data →
    ∃ u, exec (.dataFrameEnd symbols) s = .next u ∧ u.cells.wf = true ∧
      u.cells.readChain record.chain record.length = payload

/-- R25, R50: no command changes a byte of the cells but the payload bytes that a frame in STORING brings, at most as many as it
declared, each at its address in the frame's own chain. What is owed stores nothing. How many of the bytes that have come are stored before the
frame's end is the model's choice (log 15). -/
def Obligations.OnlyReceivedPayloadIsStored : Prop :=
  ∀ (c : Instr) (s t : State), exec c s = .next t →
    let at? := fun i => storeAddress (s.found.storesBytes c).1 i
    ∀ a, (∀ i, i < (s.found.storesBytes c).2 → at? i ≠ some a) → t.cells.read a = s.cells.read a

/-- R52: a frame cut short is dropped: in HEADER and STAGING it is counted in feed malformed, in STORING its reservation goes
back as well, in SKIPPING it is not counted again. A start marker begins the next frame, an end marker ends in AWAIT-START.
AWAIT-START stands for HEADER where the cut frame's own start marker came since the last command (the model's form, log 14). R40,
R42, R44: what arrives in AWAIT-START without a start marker is discarded uncounted, and the end of a skipped frame is not counted a
second time. -/
def Obligations.FeedFramesCutShortIgnoredOrSkipped : Prop :=
  ∀ (s : State) (symbols : List LaneSymbol), s.Ready →
    let malformed := { s.port with feedMalformed := s.port.feedMalformed + 1#32 }
    let drawn := s.freeCount + undecodedIn symbols
    (∀ bytes damaged, s.sinceStart symbols = some (bytes, damaged) → bytes.length < 6 →
      exec (.feedFrameCutShort .start symbols) s = .next { s with feedRx := .header [] false, port := malformed, freeCount := drawn } ∧
      exec (.feedFrameCutShort .finish symbols) s =
        .next { s with feedRx := .awaitStart, port := malformed, freeCount := drawn }) ∧
    (∀ header received running damaged, s.feedRx = .staging header received running damaged →
      exec (.feedFrameCutShort .start symbols) s = .next { s with feedRx := .header [] false, port := malformed, freeCount := drawn }) ∧
    (∀ n, s.feedRx = .skipping n → exec (.feedFrameCutShort .start symbols) s =
      .next { s with feedRx := .header [] false, freeCount := drawn }) ∧
    (s.feedRx = .awaitStart → exec (.feedFrameIgnored symbols) s = .next s) ∧
    (∀ n, s.feedRx = .skipping n → exec (.skippingFrameEnd symbols) s =
      .next { s with feedRx := .awaitStart, freeCount := drawn }) ∧
    (∀ record received running damaged, s.feedRx = .storing record received running damaged →
      let x := s.stream record.stream
      let occupancy := x.occupancy - record.chain.length
      ∃ u, exec (.feedFrameCutShort .start symbols) s = .next u ∧
        u.pool.freeCells = s.pool.freeCells ++ record.chain ∧ u.pool.freeRecords = s.pool.freeRecords ++ [record.number] ∧
        u.stream record.stream = { x with
          occupancy := occupancy, flow := if x.state = .closed then x.flow else x.flowAt occupancy } ∧
        OtherStreams s u record.stream ∧ PoolFollows s u s.events ∧
        u = { s with feedRx := .header [] false, port := malformed, freeCount := drawn, cells := u.cells, pool := u.pool,
                     streams := u.streams, events := u.events })

/-- R57: at the end of a staged REQUEST, NOTE or NOTE-TAKEN a byte-count mismatch is counted in feed malformed and a check word
mismatch in feed check errors, in that order; the frame is dropped and reaches no block. -/
def Obligations.DamagedStagedFrameIsDropped : Prop :=
  ∀ (s : State) (symbols : List LaneSymbol) (header : Header) (received : List Byte) (running : CheckWord)
    (damaged : Bool) (c : Instr),
    s.Ready → s.feedRx = .staging header received running damaged →
    (header.kind = 0x31#8 ∧ c = .requestArrival symbols) ∨ (header.kind = 0x21#8 ∧ c = .producerNote symbols) ∨
      (header.kind = 0x22#8 ∧ c = .producerNoteTaken symbols) →
    let length := header.length.toNat
    let values := received ++ s.arrived symbols
    let drawn := s.freeCount + undecodedIn symbols
    (values.length ≠ length + 4 →
      exec c s = .next { s with
        feedRx := .awaitStart, port := { s.port with feedMalformed := s.port.feedMalformed + 1#32 }, freeCount := drawn }) ∧
    (values.length = length + 4 →
      damaged = true ∨ undecodedIn symbols ≠ 0 ∨
        values.drop length ≠ checkWordBytes (checkOutput (checkBytes running (values.take length))) →
      exec c s = .next { s with
        feedRx := .awaitStart, port := { s.port with feedCheckErrors := s.port.feedCheckErrors + 1#32 }, freeCount := drawn })

/-- R57, R146, R147: a good REQUEST takes a slot if one is FREE, and is taken into EXECUTING at once by an idle engine; with four
slots occupied it is discarded, counted in requests-lost and reported by REQUEST-LOST. -/
def Obligations.RequestTakesSlotOrIsLost : Prop :=
  ∀ (s : State) (symbols : List LaneSymbol) (r : Request),
    s.StagedFrame 0x31#8 symbols (r.number :: r.command :: r.target :: r.parameters) →
    (s.slots.length < 4 → s.resetPending = true ∨ s.slots.any Slot.isExecuting = true →
      exec (.requestArrival symbols) s = .next { s with feedRx := .awaitStart, slots := s.slots ++ [.queued r] }) ∧
    (s.slots.length < 4 → s.resetPending = false → (∀ x ∈ s.slots, ∃ a, x = .answering a) →
      exec (.requestArrival symbols) s = .next { s with feedRx := .awaitStart, slots := s.slots ++ [.executing r] }) ∧
    (4 ≤ s.slots.length →
      exec (.requestArrival symbols) s = .next { s with
        feedRx := .awaitStart
        port := { s.port with requestsLost := s.port.requestsLost + 1#32 }
        events := s.settings.record s.events
          { kind := .requestLost, streamTag := 0#8, drainTag := 255#8, serial := 0xFFFF#16
            detail := BitVec.ofNat 16 (256 * r.number.toNat + r.command.toNat) } })

/-! ### Notes -/

/-- R136, R137, R139, R140: a NOTE is stored in an EMPTY slot, or refused: the slot stays as it was and the NOTE-REFUSED record toward
the sender grows, and with it the tally of a NOTE-REFUSED toward the consumer that is in transmission. -/
def Obligations.NoteIsStoredOrRefused : Prop :=
  ∀ (s : State) (symbols : List LaneSymbol) (n : Note),
    (s.StagedFrame 0x21#8 symbols (n.number :: n.payload) →
      exec (.producerNote symbols) s = .next { s with
        feedRx := .awaitStart
        notes := if s.notes.forward = .empty then { s.notes with forward := .waiting n }
                 else { s.notes with refusedToProducer := afterEvent s.notes.refusedToProducer n.number } }) ∧
    ∀ (part : FramePart) (serial : Serial) (a : State),
      s.TakesReturn part (framed 0x21#8 0#8 serial.toNat (n.number :: n.payload)) a → n.payload.length ≤ 64 →
      (a.notes.back = .empty →
        exec (.consumerNote part ⟨serial, n.number, n.payload⟩) s = .next { a with notes := { a.notes with back := .waiting n } }) ∧
      (a.notes.back ≠ .empty →
        ∃ t, exec (.consumerNote part ⟨serial, n.number, n.payload⟩) s = .next t ∧
          t = { a with notes := { a.notes with refusedToConsumer := afterEvent a.notes.refusedToConsumer n.number },
                       drainTx := t.drainTx } ∧
          (∀ sent tally, a.drainTx = some (.noteRefused sent tally) →
            t.drainTx = some (.noteRefused sent (afterEvent tally n.number))) ∧
          ((∀ sent tally, a.drainTx ≠ some (.noteRefused sent tally)) → t.drainTx = a.drainTx))

/-- R138, R139, R140: a NOTE-TAKEN is matched by a slot in AWAITING-TAKEN with a note of its number: the slot becomes EMPTY and the
NOTE-DONE record toward the note's sender grows, and with it the tally of a NOTE-DONE toward the consumer that is in
transmission. Any other NOTE-TAKEN counts in note-stray and changes nothing else. -/
def Obligations.NoteTakenIsMatchedOrStray : Prop :=
  ∀ (s : State) (symbols : List LaneSymbol) (number : Byte),
    let stray := { s.port with noteStray := s.port.noteStray + 1#32 }
    (∀ (part : FramePart) (serial : Serial) (a : State), s.TakesReturn part (framed 0x22#8 0#8 serial.toNat [number]) a →
      (∀ n : Note, a.notes.forward = .awaitingTaken n → n.number = number →
        exec (.consumerNoteTaken (part, ⟨serial, number⟩)) s = .next { a with
          notes := { a.notes with forward := .empty, doneToProducer := afterEvent a.notes.doneToProducer number } }) ∧
      ((∀ n : Note, a.notes.forward = .awaitingTaken n → n.number ≠ number) →
        exec (.consumerNoteTaken (part, ⟨serial, number⟩)) s =
          .next { a with port := { a.port with noteStray := a.port.noteStray + 1#32 } })) ∧
    (s.StagedFrame 0x22#8 symbols [number] → ∀ n : Note, s.notes.back = .awaitingTaken n → n.number = number →
      ∃ t, exec (.producerNoteTaken symbols) s = .next t ∧
        t = { s with feedRx := .awaitStart, drainTx := t.drainTx,
                     notes := { s.notes with back := .empty, doneToConsumer := afterEvent s.notes.doneToConsumer number } } ∧
        (∀ sent tally, s.drainTx = some (.noteDone sent tally) →
          t.drainTx = some (.noteDone sent (afterEvent tally number))) ∧
        ((∀ sent tally, s.drainTx ≠ some (.noteDone sent tally)) → t.drainTx = s.drainTx)) ∧
    (s.StagedFrame 0x22#8 symbols [number] → (∀ n : Note, s.notes.back = .awaitingTaken n → n.number ≠ number) →
      exec (.producerNoteTaken symbols) s = .next { s with feedRx := .awaitStart, port := stray })

/-! ### Returns from the consumer -/

/-- R106, R121: while the carrier is not UP no frame from the consumer reaches any block and none is counted: a frame whose start marker
comes then is discarded. A frame that is being discarded, since its start marker came before the carrier was UP or since it was arriving at
carrier loss, stays discarded to its end, also where the carrier is UP by then; a start marker ends it too, and begins the next frame. What
comes with no start marker before it, as the rest of a frame that a device reset abandoned, changes nothing. So it is with every row of the
drain link, RETURN_FRAME_DISCARDED among them. That a frame comes in parts is the model's form (log 18). -/
def Obligations.ReturnsWhileCarrierNotUp : Prop :=
  ∀ (s : State) (c : Instr) (extent : Extent), s.Ready → returnExtent c = some extent →
    (s.carrier ≠ .up ∧ ¬ s.drainRx.Taken) ∨ (extent.opens = false ∧ (s.drainRx = .discarding ∨ s.drainRx = .awaitStart)) →
    exec c s = .next { s with
      drainRx := match extent.ends with
        | none => if extent.opens then .discarding else s.drainRx
        | some .finish => .awaitStart
        | some .start => s.receiverAtStart }

/-- R121: a good frame may come in parts. With its start marker, which cuts a frame in reception short, its first bytes are held; a header
that R121 and R175 call malformed (TAG 255 on ACK and REPLAY, a NOTE above 64 payload bytes) is counted as its sixth byte comes, and the
rest is skipped to its end and not counted again. A frame that comes whole and is not good after all is counted once (logs 17 and 18). Where
a good frame ends and is taken, the statements of its row say what comes of it. -/
def Obligations.ReturnsComeInParts : Prop :=
  ∀ (s : State) (c : Instr) (part : FramePart) (frame : List Byte),
    s.Ready → s.carrier = .up → returnFrame c = some (part, frame) →
    let bad := (headerOf frame).MalformedOnDrain
    let badCount := frame.length ≠ 10 + (headerOf frame).length.toNat
    let malformed := { s.portAtStart with drainMalformed := s.portAtStart.drainMalformed + 1#32 }
    (∀ count, part = .opening count →
      (count < 6 ∨ ¬ bad →
        exec c s = .next { s with drainRx := .receiving (frame.take count) false, port := s.portAtStart }) ∧
      (6 ≤ count → bad → exec c s = .next { s with drainRx := .skipping, port := malformed })) ∧
    (part = .whole → bad ∨ badCount → exec c s = .next { s with drainRx := .awaitStart, port := malformed }) ∧
    (part = .closing → s.drainRx = .skipping → exec c s = .next { s with drainRx := .awaitStart })

/-- R68, R72, R73, R80, R81: an ACK that is progress releases the frames from head to its serial; head moves behind it and pulls
the cursor along; OPEN and DRAINING reload the budget and set the timer by the in-window count that is left, HALTED changes
neither. -/
def Obligations.AckIsProgress : Prop :=
  ∀ (s a : State) (part : FramePart) (d : Byte) (serial : Serial) (t : Tag),
    s.TakesReturn part (framed 0x11#8 d serial.toNat []) a → a.Routes d t → (a.stream t).state ≠ .closed →
    let x := a.stream t
    let m := Serial.distance x.head serial
    let cursor := if Serial.distance x.head x.cursor ≤ m then serial + 1#12 else x.cursor
    m < Serial.distance x.head x.reach →
    ∃ u, exec (.ack part ⟨d, serial⟩) s = .next u ∧
      ReleaseStep a u t (m + 1)
        { x with
          head := serial + 1#12
          cursor := cursor
          budget := if x.Live then x.config.replayBudget else x.budget
          timer :=
            if x.Live then
              if 0 < Serial.distance (serial + 1#12) cursor then
                if x.held then .frozen x.config.ackTimeout else .running x.config.ackTimeout
              else .idle
            else x.timer }
        0x0001#16

/-- R68, R69, R70, R71: a stale ACK or REPLAY is counted in the stream's stale-returns and changes nothing else; an ahead one raises
ACK-AHEAD or REPLAY-AHEAD with the stream's reach and changes nothing else. -/
def Obligations.StaleAndAheadReturns : Prop :=
  ∀ (s a : State) (part : FramePart) (d : Byte) (serial : Serial) (t : Tag), a.Routes d t →
    let x := a.stream t
    let m := Serial.distance x.head serial
    let w := Serial.distance x.head x.reach
    let counted := a.setStream t { x with counters := { x.counters with staleReturns := x.counters.staleReturns + 1#32 } }
    let raised := fun kind => { a with
      events := a.settings.record a.events
        { kind := kind, streamTag := BitVec.ofNat 8 t.number, drainTag := d, serial := serial.setWidth 16
          detail := x.reach.setWidth 16 } }
    (s.TakesReturn part (framed 0x11#8 d serial.toNat []) a → w ≤ m →
      (2048 ≤ m → exec (.ack part ⟨d, serial⟩) s = .next counted) ∧
      (m < 2048 → exec (.ack part ⟨d, serial⟩) s = .next (raised .ackAhead))) ∧
    (s.TakesReturn part (framed 0x12#8 d serial.toNat []) a → w < m →
      (2048 ≤ m → exec (.replay part ⟨d, serial⟩) s = .next counted) ∧
      (m < 2048 → exec (.replay part ⟨d, serial⟩) s = .next (raised .replayAhead)))

/-- R69, R76, R78, R80, R81: an accepted REPLAY that names a serial after head releases the frames before it; head and cursor move
to it; OPEN and DRAINING reload the budget and stop the timer, HALTED changes neither. -/
def Obligations.ReplayReleases : Prop :=
  ∀ (s a : State) (part : FramePart) (d : Byte) (serial : Serial) (t : Tag),
    s.TakesReturn part (framed 0x12#8 d serial.toNat []) a → a.Routes d t → (a.stream t).state ≠ .closed →
    let x := a.stream t
    let m := Serial.distance x.head serial
    0 < m → m ≤ Serial.distance x.head x.reach →
    ∃ u, exec (.replay part ⟨d, serial⟩) s = .next u ∧
      ReleaseStep a u t m
        { x with
          head := serial
          cursor := serial
          budget := if x.Live then x.config.replayBudget else x.budget
          timer := if x.Live then .idle else x.timer
          counters := { x.counters with peerReplays := x.counters.peerReplays + 1#32 } }
        0x0001#16

/-- R77, R78, R14: an accepted REPLAY that names head releases nothing. With the cursor already there it costs nothing; else it
charges an OPEN or DRAINING stream, or halts it with cause PEER-REPLAY when nothing is left to charge; a HALTED stream's cursor moves
without a charge. -/
def Obligations.ReplayAtHead : Prop :=
  ∀ (s a : State) (part : FramePart) (d : Byte) (t : Tag),
    s.TakesReturn part (framed 0x12#8 d (a.stream t).head.toNat []) a → a.Routes d t →
    let x := a.stream t
    let replay := exec (.replay part ⟨d, x.head⟩) s
    let counted := { x with counters := { x.counters with peerReplays := x.counters.peerReplays + 1#32 } }
    (x.cursor = x.head → x.Live → replay = .next (a.setStream t { counted with timer := .idle })) ∧
    (x.cursor = x.head → ¬ x.Live → replay = .next (a.setStream t counted)) ∧
    (x.cursor ≠ x.head → x.Live → 0 < x.budget →
      replay = .next (a.setStream t
        { counted with budget := x.budget - 1, cursor := x.head, timer := .idle })) ∧
    (x.cursor ≠ x.head → x.Live → x.budget = 0 →
      replay = .next { a.setStream t
          { counted with state := .halted, timer := .idle, closeRequested := false } with
        events := a.settings.record a.events (haltedRecord t x 0x0002#16) }) ∧
    (x.cursor ≠ x.head → x.state = .halted →
      replay = .next (a.setStream t { counted with cursor := x.head }))

/-- R123: an ACK, REPLAY, HOLD or RESUME whose drain tag has no entry is counted in drain stray and raises STRAY-RETURN; no stream, no
flag and no timer changes. -/
def Obligations.StrayReturnIsCounted : Prop :=
  ∀ (s a : State) (part : FramePart) (d : Byte) (serial : Serial), a.Strays d →
    let takes := fun kind => s.TakesReturn part (framed kind d serial.toNat []) a
    let stray := fun (sent : BitVec 16) (kind : BitVec 16) => { a with
      port := { a.port with drainStray := a.port.drainStray + 1#32 }
      events := a.settings.record a.events
        { kind := .strayReturn, streamTag := 0#8, drainTag := d, serial := sent, detail := kind } }
    (takes 0x11#8 → exec (.ack part ⟨d, serial⟩) s = .next (stray (serial.setWidth 16) 0x0011#16)) ∧
    (takes 0x12#8 → exec (.replay part ⟨d, serial⟩) s = .next (stray (serial.setWidth 16) 0x0012#16)) ∧
    (takes 0x13#8 → exec (.hold (part, ⟨d, serial⟩)) s = .next (stray 0xFFFF#16 0x0013#16)) ∧
    (takes 0x14#8 → exec (.resume (part, ⟨d, serial⟩)) s = .next (stray 0xFFFF#16 0x0014#16))

/-- R91, R118: HOLD sets a stream's HELD flag and freezes its RUNNING timer with its count; RESUME clears the flag and lets a FROZEN
timer run on. A flag that stands already makes the command change nothing. Drain tag 255 acts on every stream that is not CLOSED. No timer is
due here: one that is due expires before a HOLD or RESUME is taken (logs 1 and 3). -/
def Obligations.HoldAndResume : Prop :=
  ∀ (s a : State) (part : FramePart) (d : Byte) (serial : Serial),
    let takes := fun kind => s.TakesReturn part (framed kind d serial.toNat []) a
    let held := fun x : Stream => if x.held then x else { x with
      held := true
      timer := match x.timer with
        | .idle => .idle
        | .running n => .frozen n
        | .due => .due
        | .frozen n => .frozen n }
    let resumed := fun x : Stream => if x.held then { x with
      held := false
      timer := match x.timer with
        | .idle => .idle
        | .running n => .running n
        | .due => .due
        | .frozen n => .running n } else x
    (∀ t, a.Routes d t →
      (takes 0x13#8 → exec (.hold (part, ⟨d, serial⟩)) s = .next (a.setStream t (held (a.stream t)))) ∧
      (takes 0x14#8 → exec (.resume (part, ⟨d, serial⟩)) s = .next (a.setStream t (resumed (a.stream t))))) ∧
    (d = 255#8 →
      (takes 0x13#8 → ∃ u, exec (.hold (part, ⟨d, serial⟩)) s = .next u ∧ u = { a with streams := u.streams } ∧
        ∀ t, u.stream t = if (a.stream t).state = .closed then a.stream t else held (a.stream t)) ∧
      (takes 0x14#8 → ∃ u, exec (.resume (part, ⟨d, serial⟩)) s = .next u ∧ u = { a with streams := u.streams } ∧
        ∀ t, u.stream t = if (a.stream t).state = .closed then a.stream t else resumed (a.stream t)))

/-- R121, R124: while the carrier is UP a start marker takes a frame into reception, and what comes of it is held. It is dropped and counted
once: in drain malformed as its header completes, if that is malformed, and the rest is skipped to the end marker or the next start marker
and not counted again; or for a start marker that cuts it short, which begins the next frame, or an end marker before its header is complete;
or at its end marker for a byte count that differs from LENGTH; else in drain check errors for its check word, which an undecodable byte
fails (R173). Undecodable bytes take free values (log 16). Where a command begins and ends is the model's form, and so is that a frame that
ends good is no DRAIN_FRAME_DROPPED, and one that ends while it is in reception no RETURN_FRAME_DISCARDED: as long as a frame goes on, the
two rows are the same (log 18). -/
def Obligations.DrainFrameDropped : Prop :=
  ∀ (s : State) (extent : Extent) (symbols : List LaneSymbol), s.Ready → s.carrier = .up →
    let run := exec (.drainFrameDropped extent symbols) s
    let discard := exec (.returnFrameDiscarded ⟨extent, symbols⟩) s
    let noDiscard := extent.ends ≠ none → discard = .refused (.notPossible "RETURN_FRAME_DISCARDED")
    (extent.ends = none → discard = run) ∧
    (s.drainRx = .skipping → extent.opens = false → noDiscard ∧
      run = .next { s with
        drainRx := match extent.ends with | none => .skipping | some .finish => .awaitStart | some .start => .receiving [] false }) ∧
    ∀ (bytes : List Byte) (damaged : Bool), s.returnSoFar extent.opens symbols = some (bytes, damaged) →
      let port := if extent.opens then s.portAtStart else s.port
      let covered := 6 + (headerOf bytes).length.toNat
      let badHeader := 6 ≤ bytes.length ∧ (headerOf bytes).MalformedOnDrain
      let badCount := bytes.length < 6 ∨ bytes.length ≠ covered + 4
      let badCheck := damaged = true ∨
        bytes.drop covered ≠ checkWordBytes (checkOutput (checkBytes checkInitial (bytes.take covered)))
      let drawn := { s with freeCount := s.freeCount + undecodedIn symbols }
      let malformed := fun receiver : DrainReceiver => { drawn with
        drainRx := receiver, port := { port with drainMalformed := port.drainMalformed + 1#32 } }
      noDiscard ∧
      (extent.ends = none → ¬ badHeader → run = .next { drawn with drainRx := .receiving bytes damaged, port := port }) ∧
      (extent.ends = none → badHeader → run = .next (malformed .skipping)) ∧
      (extent.ends = some .start → run = .next (malformed (.receiving [] false))) ∧
      (extent.ends = some .finish → badHeader ∨ badCount → run = .next (malformed .awaitStart)) ∧
      (extent.ends = some .finish → ¬ badHeader → ¬ badCount → badCheck → run = .next { drawn with
        drainRx := .awaitStart, port := { port with drainCheckErrors := port.drainCheckErrors + 1#32 } }) ∧
      (extent.ends = some .finish → ¬ badHeader → ¬ badCount → ¬ badCheck →
        run = .refused (.notPossible "DRAIN_FRAME_DROPPED"))

/-! ### Clock and carrier -/

/-- R90, R102: a tick lowers every RUNNING timer and, in SETTLING, the settle count by one; FROZEN and IDLE timers stay. A count that it
lowers from 1 to 0 is `due`, or `settled`: the expiry, or the end of settling, is the part's next step, and the mark `atTick` lets the next
command fall together with it (the model's form, logs 1 to 4). -/
def Obligations.TickLowersCounts : Prop :=
  ∀ s : State, s.phase = .running → s.Quiet →
    ∃ u, exec .tick s = .next u ∧
      (∀ t, ∃ y, u.stream t = { s.stream t with timer := y } ∧
        (∀ n, (s.stream t).timer = .running n → 1 < n → y = .running (n - 1)) ∧
        ((s.stream t).timer = .running 1 → y = .due) ∧
        ((∀ n, (s.stream t).timer ≠ .running n) → y = (s.stream t).timer)) ∧
      (∀ n, s.carrier = .settling n → 1 < n → u.carrier = .settling (n - 1)) ∧
      (s.carrier = .settling 1 → u.carrier = .settled) ∧
      ((∀ n, s.carrier ≠ .settling n) → u.carrier = s.carrier) ∧
      ((∃ t, (s.stream t).timer = .running 1) ∨ s.carrier = .settling 1 → u.atTick = true) ∧
      ((∀ t n, (s.stream t).timer = .running n → 1 < n) → (∀ n, s.carrier = .settling n → 1 < n) → u.atTick = false) ∧
      u = { s with streams := u.streams, carrier := u.carrier, atTick := u.atTick }

/-- R93: an expiry with budget left is counted in timeouts, charges one, takes the cursor to head, stops the timer and raises
TIMEOUT-REPLAY; reach, the queue, the pool and the frame in transmission stay. R79, R97: a REPLAY of head that falls together with the
expiry and is taken behind it, whether TIMER_EXPIRY is given first or not, finds the cursor at head: the two cost one unit together, and
the replay has not started. The expiry owed by a tick is `due`, and `atTick` says that a command can still fall together with it: these
are the model's form (logs 2 and 3). -/
def Obligations.ExpiryReplays : Prop :=
  ∀ (s : State) (t : Tag), s.phase = .running → (s.stream t).timer = .due → 0 < (s.stream t).budget →
    let x := s.stream t
    let u := { s.setStream t
        { x with
          counters := { x.counters with timeouts := x.counters.timeouts + 1#32 }
          budget := x.budget - 1, cursor := x.head, timer := .idle } with
      events := s.settings.record s.events
        { kind := .timeoutReplay, streamTag := BitVec.ofNat 8 t.number, drainTag := BitVec.ofNat 8 x.config.drainTag.val
          serial := x.head.setWidth 16, detail := BitVec.ofNat 16 (x.budget - 1) } }
    exec (.timerExpiry t) s = .next u ∧
    ∀ d, s.Routes d t → s.atTick = true → x.Live → ∀ z, z = s ∨ z = u →
      ∃ v, exec (.replay .whole ⟨d, x.head⟩) z = .next v ∧ v.drainTx = s.drainTx ∧ v.stream t = { x with
        counters := { x.counters with
          timeouts := x.counters.timeouts + 1#32, peerReplays := x.counters.peerReplays + 1#32 }
        budget := x.budget - 1, cursor := x.head, timer := .idle }

/-- R94, R14: an expiry with no budget left is counted in timeouts and halts the stream with cause TIMER: the cursor stays, the timer
is IDLE, close-requested is clear, STREAM-HALTED is raised, and ATTN_N is low (R172). R79: a REPLAY of head that falls together with the
expiry and is taken behind it takes the cursor to head without a charge. The expiry owed by a tick is `due`, and `atTick` says that a
command can still fall together with it: these are the model's form (logs 2 and 3). -/
def Obligations.ExpiryHalts : Prop :=
  ∀ (s : State) (t : Tag), s.phase = .running → (s.stream t).timer = .due → (s.stream t).budget = 0 →
    let x := s.stream t
    ∃ u, exec (.timerExpiry t) s = .next u ∧ (s.resetPin = .high → u.attnN = false) ∧
      u = { s.setStream t
        { x with
          counters := { x.counters with timeouts := x.counters.timeouts + 1#32 }
          state := .halted, timer := .idle, closeRequested := false } with
        events := s.settings.record s.events (haltedRecord t x 0x0001#16) } ∧
      ∀ d, s.Routes d t → s.atTick = true → ∀ z, z = s ∨ z = u →
        ∃ v, exec (.replay .whole ⟨d, x.head⟩) z = .next v ∧ v.drainTx = s.drainTx ∧ v.stream t = { x with
          counters := { x.counters with
            timeouts := x.counters.timeouts + 1#32, peerReplays := x.counters.peerReplays + 1#32 }
          state := .halted, cursor := x.head, timer := .idle, closeRequested := false }

/-- R102, R104: CARRIER present starts the settling from DOWN with the settle time, and changes nothing in the other states; CARRIER
absent returns SETTLING to DOWN without an event. When the settle count reaches 0 the carrier is UP, every OPEN or DRAINING stream with
resident frames goes back to head with its timer IDLE, and CARRIER-UP is raised with their number; no budget and no counter
changes. The end of settling owed by a tick is `settled` (log 4). -/
def Obligations.CarrierSettlesAndRestores : Prop :=
  ∀ s : State,
    (s.Ready → s.carrier = .down → exec .carrierPresent s =
      .next { s with carrierPin := true, carrier := .settling s.settings.settleTime }) ∧
    (s.Ready → s.carrier ≠ .down → exec .carrierPresent s = .next { s with carrierPin := true }) ∧
    (s.Ready → s.carrier ≠ .up → exec .carrierAbsent s = .next { s with carrierPin := false, carrier := .down }) ∧
    (s.phase = .running → s.carrier = .settled → ∃ u, exec .carrierSettled s = .next u ∧
      (∀ t, (s.stream t).Live ∧ (s.stream t).queue ≠ [] →
        u.stream t = { s.stream t with cursor := (s.stream t).head, timer := .idle }) ∧
      (∀ t, ¬ ((s.stream t).Live ∧ (s.stream t).queue ≠ []) → u.stream t = s.stream t) ∧
      u.events = s.settings.record s.events
        { kind := .carrierUp, streamTag := 0#8, drainTag := 255#8, serial := 0xFFFF#16
          detail := BitVec.ofNat 16 (allTags.countP fun t => (s.stream t).Live ∧ (s.stream t).queue ≠ []) } ∧
      u = { s with carrier := .up, streams := u.streams, events := u.events })

/-- R105, R106, R111, R121, R142: at carrier loss the frame in reception is discarded uncounted, the transmission is abandoned and a frame
no longer resident goes back to the pool, every HELD flag is clear and every RUNNING timer FROZEN with its count, the forward note is WAITING
again or, if its clear was requested, gone, and CARRIER-LOST is raised. Nothing else changes. That CARRIER-LOST is queued before a pool
event of the same step is read from R167 (log 19); no timer is due here, since one that is due expires first (logs 1 and 3). -/
def Obligations.CarrierLoss : Prop :=
  ∀ s : State, s.Ready → s.carrier = .up →
    let frozen := BitVec.ofNat 16 (allTags.countP fun t => (s.stream t).timer.isRunning)
    let absent : EventRecord :=
      { kind := .carrierLost, streamTag := 0#8, drainTag := 255#8, serial := 0xFFFF#16, detail := frozen }
    ∃ u lost, exec .carrierAbsent s = .next u ∧
      (∀ record resident d x, s.drainTx = some (.data record resident d x) →
        lost = { kind := .carrierLost, streamTag := BitVec.ofNat 8 record.stream.number, drainTag := BitVec.ofNat 8 d.val
                 serial := x.setWidth 16, detail := frozen }) ∧
      ((∀ record resident d x, s.drainTx ≠ some (.data record resident d x)) → lost = absent) ∧
      (∀ record d x, s.drainTx = some (.data record false d x) →
        u.pool.freeCells = s.pool.freeCells ++ record.chain ∧ u.pool.freeRecords = s.pool.freeRecords ++ [record.number]) ∧
      ((∀ record d x, s.drainTx ≠ some (.data record false d x)) → u.pool = s.pool) ∧
      PoolFollows s u (s.settings.record s.events lost) ∧
      (∀ t, ∃ y, u.stream t = { s.stream t with held := false, timer := y } ∧
        ((s.stream t).timer = .idle → y = .idle) ∧
        (∀ n, (s.stream t).timer = .running n ∨ (s.stream t).timer = .frozen n → y = .frozen n)) ∧
      (∀ n, s.notes.forward = .awaitingTaken n ∨ s.notes.forward = .sending n false →
        u.notes = { s.notes with forward := .waiting n }) ∧
      (∀ n, s.notes.forward = .sending n true → u.notes = { s.notes with forward := .empty }) ∧
      ((s.notes.forward = .empty ∨ ∃ n, s.notes.forward = .waiting n) → u.notes = s.notes) ∧
      u = { s with carrierPin := false, carrier := .down, drainTx := none
                   drainRx := if s.drainRx = .awaitStart then .awaitStart else .discarding, pool := u.pool, streams := u.streams
                   notes := u.notes, events := u.events }

/-! ### The drain transmitter -/

/-- R63, R109, R113 to R116: with no note waiting the arbiter serves an eligible stream by class, credit and round robin; the frame at
the cursor goes out under the stream's drain tag and that serial with its mark set; cursor, reach, starts, resends, the credit and the
class's position follow. A decision is a command of its own (log 1). -/
def Obligations.DataTransmissionStarts : Prop :=
  ∀ (s : State) (t : Tag) (c : StreamClass) (credits : ClassWeights) (record : FrameRecord),
    s.DrainFree → s.NoNoteWaits → s.ServesStream t c credits →
    let x := s.stream t
    x.queue[Serial.distance x.head x.cursor]? = some record →
    ∃ u, exec .dataTransmissionStart s = .next u ∧
      u.drainTx = some (.data record true x.config.drainTag x.cursor) ∧
      u.stream t = { x with
        cursor := x.cursor + 1#12
        reach := if x.cursor = x.reach then x.reach + 1#12 else x.reach
        counters := { x.counters with
          starts := x.counters.starts + 1#32
          resends := x.counters.resends +
            if Serial.distance x.head x.cursor < Serial.distance x.head x.reach then 1#32 else 0#32 } } ∧
      OtherStreams s u t ∧
      (∀ d, u.credits.ofClass d = if d = c then credits.ofClass d - 1 else credits.ofClass d) ∧
      (∀ d, u.positions.ofClass d = if d = c then t else s.positions.ofClass d) ∧
      u = { s with drainTx := u.drainTx, streams := u.streams, credits := u.credits, positions := u.positions }

/-- R64, R110, R34: a DATA transmission that completes with its mark set loads the timer of its stream, for the full ack timeout, if
the stream is OPEN or DRAINING with an in-window count above 0 and an IDLE timer; with its mark clear the frame's cells and record go
back to the pool and no timer is loaded. -/
def Obligations.DataTransmissionCompletes : Prop :=
  ∀ (s : State) (record : FrameRecord) (d : DrainTag) (serial : Serial),
    s.Ready →
    let x := s.stream record.stream
    let loads := x.Live ∧ 0 < Serial.distance x.head x.cursor ∧ x.timer = .idle
    (s.drainTx = some (.data record true d serial) → loads →
      exec .dataTransmissionComplete s = .next { s.setStream record.stream
        { x with timer := if x.held then .frozen x.config.ackTimeout else .running x.config.ackTimeout } with
        drainTx := none }) ∧
    (s.drainTx = some (.data record true d serial) → ¬ loads →
      exec .dataTransmissionComplete s = .next { s with drainTx := none }) ∧
    (s.drainTx = some (.data record false d serial) →
      ∃ u, exec .dataTransmissionComplete s = .next u ∧ u.pool.freeCells = s.pool.freeCells ++ record.chain ∧
        u.pool.freeRecords = s.pool.freeRecords ++ [record.number] ∧ PoolFollows s u s.events ∧
        u = { s with drainTx := none, pool := u.pool, events := u.events })

/-- R109, R110, R113, R136, R140, R143: the notes toward the consumer. They start in the arbiter's order, a pending NOTE-DONE, a
pending NOTE-REFUSED, the forward note; the indication's record stays pending, the forward slot is SENDING. At completion the record
keeps the tally gathered during the transmission, or is not pending; the slot awaits NOTE-TAKEN, or is EMPTY if its clear was
requested. -/
def Obligations.DrainNotesStartAndComplete : Prop :=
  ∀ s : State,
    (s.DrainFree →
      (∀ i, s.notes.doneToConsumer = some i →
        exec .drainIndicationStart s = .next { s with drainTx := some (.noteDone i none) }) ∧
      (∀ i, s.notes.doneToConsumer = none → s.notes.refusedToConsumer = some i →
        exec .drainIndicationStart s = .next { s with drainTx := some (.noteRefused i none) }) ∧
      (∀ n, s.notes.doneToConsumer = none → s.notes.refusedToConsumer = none → s.notes.forward = .waiting n →
        exec .forwardNoteStart s =
          .next { s with drainTx := some (.note n), notes := { s.notes with forward := .sending n false } })) ∧
    (∀ sent tally, s.Ready → s.drainTx = some (.noteDone sent tally) → exec .drainIndicationComplete s =
      .next { s with drainTx := none, notes := { s.notes with doneToConsumer := tally } }) ∧
    (∀ sent tally, s.Ready → s.drainTx = some (.noteRefused sent tally) → exec .drainIndicationComplete s =
      .next { s with drainTx := none, notes := { s.notes with refusedToConsumer := tally } }) ∧
    (∀ n, s.Ready → s.drainTx = some (.note n) →
      (s.notes.forward = .sending n false → exec .forwardNoteComplete s =
        .next { s with drainTx := none, notes := { s.notes with forward := .awaitingTaken n } }) ∧
      (s.notes.forward = .sending n true → exec .forwardNoteComplete s =
        .next { s with drainTx := none, notes := { s.notes with forward := .empty } }))

/-- R108, R171: once started, a transmission on either link goes on with the bytes it began with: no command changes what is in
transmission but for the mark and the tally, which are not sent; it can only end. A DATA payload is read from its cells, which no
command changes while the frame is in transmission. -/
def Obligations.TransmissionsGoOn : Prop :=
  ∀ (c : Instr) (s u : State), exec c s = .next u →
    (∀ f, s.feedTx = some f → u.feedTx = some f ∨ u.feedTx = none) ∧
    (∀ record resident d x, s.drainTx = some (.data record resident d x) →
      u.drainTx = none ∨ u.drainTx = some (.data record resident d x) ∨ u.drainTx = some (.data record false d x)) ∧
    (∀ n, s.drainTx = some (.note n) → u.drainTx = none ∨ u.drainTx = some (.note n)) ∧
    (∀ i a, s.drainTx = some (.noteDone i a) → u.drainTx = none ∨ ∃ b, u.drainTx = some (.noteDone i b)) ∧
    (∀ i a, s.drainTx = some (.noteRefused i a) → u.drainTx = none ∨ ∃ b, u.drainTx = some (.noteRefused i b)) ∧
    (s.Awake → u.Awake → s.feedTx ≠ none → u.feedTx ≠ none → u.feedBytes = s.feedBytes) ∧
    (s.InRange → s.Lawful → s.Awake → u.Awake → s.drainTx ≠ none → u.drainTx ≠ none → u.drainBytes = s.drainBytes)

/-! ### The feed transmitter -/

/-- R128, R131, R132: a pending pool indication goes out first; else the first stream in tag order after the flow position that has a
pending indication. The sent state becomes the state carried, and a stream's indication moves the flow position. -/
def Obligations.FlowFrameStarts : Prop :=
  ∀ s : State, s.FeedFree →
    (s.pool.level = .low → s.sentPool = .normal → exec .flowFrameStart s =
      .next { s with feedTx := some (.flow .poolPause), sentPool := .low }) ∧
    (s.pool.level = .normal → s.sentPool = .low → exec .flowFrameStart s =
      .next { s with feedTx := some (.flow .poolGo), sentPool := .normal }) ∧
    (∀ t : Tag, s.pool.level = s.sentPool → (s.stream t).flow ≠ (s.stream t).sentFlow →
      (∀ v, (s.stream v).flow ≠ (s.stream v).sentFlow → v ≠ t →
        searchTurns s.flowPosition t < searchTurns s.flowPosition v) →
      exec .flowFrameStart s = .next { s.setStream t { s.stream t with sentFlow := (s.stream t).flow } with
        feedTx := some (.flow (if (s.stream t).flow = .paused then .pause t else .go t))
        flowPosition := t })

/-- R141, R148, R168, R170, R171: with no FLOW indication pending the feed arbiter takes, in this order, NOTE-DONE and NOTE-REFUSED
toward the producer, the oldest RESPONSE, the back note, and the oldest event with the lost-event count. -/
def Obligations.FeedFramesStartInOrder : Prop :=
  ∀ s : State, s.FeedFree → s.NoFlowPending →
    let d := s.notes.doneToProducer
    let r := s.notes.refusedToProducer
    (∀ i, d = some i → exec .feedIndicationStart s =
      .next { s with feedTx := some (.noteDone i), notes := { s.notes with doneToProducer := none } }) ∧
    (∀ i, d = none → r = some i → exec .feedIndicationStart s =
      .next { s with feedTx := some (.noteRefused i), notes := { s.notes with refusedToProducer := none } }) ∧
    (∀ a before after, d = none → r = none → s.slots = before ++ .answering a :: after →
      (∀ b, .answering b ∉ before) → exec .responseStart s = .next { s with feedTx := some (.response a) }) ∧
    (d = none → r = none → (∀ a, .answering a ∉ s.slots) →
      (∀ n, s.notes.back = .waiting n → exec .backNoteStart s =
        .next { s with feedTx := some (.note n), notes := { s.notes with back := .sending n false } }) ∧
      (∀ e rest, (∀ n, s.notes.back ≠ .waiting n) → s.events.queue = e :: rest → exec .eventFrameStart s =
        .next { s with feedTx := some (.event e s.events.lost), events := { queue := rest, lost := 0 } }))

/-- R106, R107, R112, R113, R114, R132, R170, R171: a transmission starts on either link only by its start command, with the part awake
and the transmitter free (on the drain link the carrier UP), and it is the one that the arbiter's order names: on the drain link NOTE-DONE,
NOTE-REFUSED, the forward note, then DATA of the stream to serve; on the feed link what R170's table takes first. A command that is not
one of the part's own steps starts nothing where nothing is owed; where something is, it acts on what it finds (logs 1 and 2). -/
def Obligations.StartsFollowTheArbiters : Prop :=
  ∀ (c : Instr) (s u : State), exec c s = .next u → c.ownStep = true ∨ s.Quiet →
    (s.drainTx = none → u.drainTx ≠ none → s.DrainFree ∧
      ((∃ i, u.drainTx = some (.noteDone i none) ∧ s.notes.doneToConsumer = some i ∧ c = .drainIndicationStart) ∨
        (∃ i, u.drainTx = some (.noteRefused i none) ∧ s.notes.refusedToConsumer = some i ∧ s.notes.doneToConsumer = none ∧
          c = .drainIndicationStart) ∨
        (∃ n, u.drainTx = some (.note n) ∧ s.notes.forward = .waiting n ∧ s.notes.doneToConsumer = none ∧
          s.notes.refusedToConsumer = none ∧ c = .forwardNoteStart) ∨
        (s.NoNoteWaits ∧ c = .dataTransmissionStart ∧ ∃ t k credits, s.ServesStream t k credits ∧
          ∃ record, (s.stream t).queue[Serial.distance (s.stream t).head (s.stream t).cursor]? = some record ∧
            u.drainTx = some (.data record true (s.stream t).config.drainTag (s.stream t).cursor)))) ∧
    (s.feedTx = none → u.feedTx ≠ none → s.FeedFree ∧
      ∃ f, u.feedTx = some f ∧ s.FeedSends f ∧ c = f.starter)

/-- R137, R143, R148, R171: the completions on the feed link: FLOW, indication and EVENT have no further effect; the back slot awaits
NOTE-TAKEN, or is EMPTY if its clear was requested; the slot of a RESPONSE becomes FREE. -/
def Obligations.FeedFramesComplete : Prop :=
  ∀ s : State, s.Ready →
    (∀ f, s.feedTx = some f → (∀ a, f ≠ .response a) → (∀ n, f ≠ .note n) →
      exec .feedFrameComplete s = .next { s with feedTx := none }) ∧
    (∀ n, s.feedTx = some (.note n) →
      (s.notes.back = .sending n false → exec .backNoteComplete s =
        .next { s with feedTx := none, notes := { s.notes with back := .awaitingTaken n } }) ∧
      (s.notes.back = .sending n true → exec .backNoteComplete s =
        .next { s with feedTx := none, notes := { s.notes with back := .empty } })) ∧
    (∀ a before after straps, s.feedTx = some (.response a) →
      s.resetPending = false ∨ a.command ≠ 0x0D#8 ∨ a.status ≠ .ok →
      s.slots = before ++ .answering a :: after → (∀ b, .answering b ∉ before) →
      exec (.responseComplete straps) s = .next { s with feedTx := none, slots := before ++ after })

/-- R28, R107, R173, R174, R175, R178, R182, R183, R184: the bytes between the markers of every frame the part sends: KIND, TAG, SERIAL,
LENGTH, the payload in the layout of its kind and the check word over all of them. A DATA payload is the record's length of bytes, read
along its cell chain in order. While RESET_N is low, or with no frame in transmission, a link carries none. -/
def Obligations.SentFrameBytes : Prop :=
  ∀ s : State,
    (¬ s.Awake ∨ s.feedTx = none → s.feedBytes = none) ∧ (¬ s.Awake ∨ s.drainTx = none → s.drainBytes = none) ∧
    (s.Awake → ∀ f, s.feedTx = some f → s.feedBytes = some (match f with
      | .flow (.pause t) => framed 0x34#8 (BitVec.ofNat 8 t.number) 0 [0x01#8]
      | .flow (.go t) => framed 0x34#8 (BitVec.ofNat 8 t.number) 0 [0x02#8]
      | .flow .poolPause => framed 0x34#8 0#8 0 [0x03#8]
      | .flow .poolGo => framed 0x34#8 0#8 0 [0x04#8]
      | .noteDone i => framed 0x23#8 0#8 0 [i.number, BitVec.ofNat 8 i.count]
      | .noteRefused i => framed 0x24#8 0#8 0 [i.number, BitVec.ofNat 8 i.count]
      | .response a => framed 0x32#8 0#8 0 ([a.number, a.command, a.target, a.status.value] ++ a.result)
      | .note n => framed 0x21#8 0#8 0 (n.number :: n.payload)
      | .event e lost => framed 0x33#8 0#8 0
          ([e.kind.value, e.streamTag, e.drainTag] ++ twoBytes e.serial.toNat ++ twoBytes e.detail.toNat ++ twoBytes lost))) ∧
    (s.Awake → ∀ tx, s.drainTx = some tx → match tx with
      | .data record _ d x => record.chain.length = (record.length + 63) / 64 →
          ∃ payload, s.drainBytes = some (framed 0x01#8 (BitVec.ofNat 8 d.val) x.toNat payload) ∧
            payload.length = record.length ∧ ∀ i, i < record.length →
              ∃ a, storeAddress record.chain i = some a ∧ payload[i]? = some (s.cells.read a)
      | .note n => s.drainBytes = some (framed 0x21#8 0#8 0 (n.number :: n.payload))
      | .noteDone i _ => s.drainBytes = some (framed 0x23#8 0#8 0 [i.number, BitVec.ofNat 8 i.count])
      | .noteRefused i _ => s.drainBytes = some (framed 0x24#8 0#8 0 [i.number, BitVec.ofNat 8 i.count]))

/-! ### Requests -/

/-- R147, R149, R150, R151, R152: an effect step validates the request in order: command, target tag, parameters, state, and for
OPEN-STREAM the drain tag. The first failure is answered with its status and an empty result (CONFLICT: the holder's tag), and nothing
but the request's own slot changes; the engine then takes the next QUEUED request unless a reset is pending. A CLOSE-STREAM of neither
mode is refused by either of its rows (log 20). -/
def Obligations.RequestsAreRefusedInOrder : Prop :=
  ∀ (c : Instr) (s : State) (r : Request) (answered : List Response) (queued : List Request),
    s.Executing r answered queued → r.TakenBy c →
    let refused := fun (status : Status) (result : List Byte) =>
      { s with slots := answeredSlots answered (r.response status result) queued s.resetPending }
    let known := 1 ≤ r.command.toNat ∧ r.command.toNat ≤ 13
    (¬ known → exec c s = .next (refused .badCommand [])) ∧
    (known → ¬ r.GoodTarget → exec c s = .next (refused .badTag [])) ∧
    (known → r.GoodTarget → ¬ r.GoodParameters → exec c s = .next (refused .badValue [])) ∧
    (∀ t : Tag, t.number = r.target.toNat → known → r.GoodTarget → r.GoodParameters →
      (r.BadStateFor (s.stream t) → exec c s = .next (refused .badState [])) ∧
      (∀ holder, r.command.toNat = 6 → (s.stream t).state = .closed →
        s.mapped (s.stream t).config.drainTag = some holder →
        exec c s = .next (refused .conflict [BitVec.ofNat 8 holder.number])))

/-- R154, R156 to R159, R179 to R181: IDENTIFY, READ-SETTINGS, READ-STREAM and READ-COUNTERS are answered OK with the state as it stands,
byte for byte, and change nothing but the request's own slot; READ-COUNTERS with clear YES sets exactly the counters of its scope to 0
after taking their values. No timer is due and no carrier settled when a request executes, since such a step is taken first (logs 1,
3 and 4). -/
def Obligations.ReadsAnswerTheState : Prop :=
  ∀ (s : State) (r : Request) (answered : List Response) (queued : List Request), s.Executing r answered queued →
    let ok := fun result => { s with slots := answeredSlots answered (r.response .ok result) queued s.resetPending }
    let flag := fun b : Bool => if b then 0x01#8 else 0x00#8
    (r.command = 0x01#8 → r.parameters = [] → r.target = 0#8 → exec .identify s = .next (ok (
      [0x5A#8, 0x02#8, 0x64#8, 0x01#8, 0x3F#8, 0x20#8, 0x00#8, 0x40#8, 0x08#8, 0x00#8, 0x08#8, 0x00#8, 0x04#8, 0x10#8,
        BitVec.ofNat 8 s.profile.val, flag s.autoopen] ++
      twoBytes s.pool.freeCells.length ++ twoBytes s.pool.freeRecords.length ++
      [flag (s.pool.level = .low), if s.carrier = .up then 0x02#8 else flag (s.carrier ≠ .down)]))) ∧
    (r.command = 0x02#8 → r.parameters = [] → r.target = 0#8 → exec .readSettings s = .next (ok (
      twoBytes s.settings.reserve ++ twoBytes s.settings.hysteresis ++
      [BitVec.ofNat 8 s.settings.weights.class1, BitVec.ofNat 8 s.settings.weights.class2,
        BitVec.ofNat 8 s.settings.weights.class3] ++
      twoBytes s.settings.eventMask.toNat ++ [BitVec.ofNat 8 s.settings.settleTime]))) ∧
    (∀ t : Tag, r.command = 0x04#8 → r.parameters = [] → r.target.toNat = t.number →
      let x := s.stream t
      exec .readStream s = .next (ok (x.config.block ++
        [match x.state with | .closed => 0x00#8 | .opened => 0x01#8 | .draining => 0x02#8 | .halted => 0x03#8,
          flag x.closeRequested] ++
        twoBytes x.head.toNat ++ twoBytes x.cursor.toNat ++ twoBytes x.reach.toNat ++ twoBytes x.tail.toNat ++
        twoBytes x.queue.length ++ twoBytes x.occupancy ++
        [flag x.held, flag (x.flow = .paused),
          if x.flow = x.sentFlow then 0x00#8 else if x.flow = .paused then 0x01#8 else 0x02#8, flag x.overrunReported] ++
        (match x.timer with
          | .idle => 0x00#8 :: twoBytes 0
          | .running n => 0x01#8 :: twoBytes n
          | .due => 0x01#8 :: twoBytes 0
          | .frozen n => 0x02#8 :: twoBytes n) ++
        [BitVec.ofNat 8 x.budget]))) ∧
    (∀ clear : Bool, r.command = 0x0A#8 → r.parameters = [if clear then 0x01#8 else 0x00#8] →
      let p := s.port
      (r.target = 0#8 → exec .readCounters s = .next { ok (fourBytes p.feedCheckErrors ++ fourBytes p.feedMalformed ++
          fourBytes p.drainCheckErrors ++ fourBytes p.drainMalformed ++ fourBytes p.drainStray ++ fourBytes p.noteStray ++
          fourBytes p.requestsLost) with
        port := if clear then
            { feedCheckErrors := 0#32, feedMalformed := 0#32, drainCheckErrors := 0#32, drainMalformed := 0#32,
              drainStray := 0#32, noteStray := 0#32, requestsLost := 0#32 }
          else p }) ∧
      (∀ t : Tag, r.target.toNat = t.number →
        let k := (s.stream t).counters
        exec .readCounters s = .next ((ok (fourBytes k.admitted ++ fourBytes k.refusedState ++ fourBytes k.refusedLimit ++
            fourBytes k.refusedPool ++ fourBytes k.starts ++ fourBytes k.resends ++ fourBytes k.timeouts ++
            fourBytes k.peerReplays ++ fourBytes k.staleReturns)).setStream t
          { s.stream t with
            counters := if clear then
                { admitted := 0#32, refusedState := 0#32, refusedLimit := 0#32, refusedPool := 0#32, starts := 0#32,
                  resends := 0#32, timeouts := 0#32, peerReplays := 0#32, staleReturns := 0#32 }
              else k })))

/-- R37, R38, R155: an accepted WRITE-SETTINGS replaces the whole record and evaluates the pool state with the new reserve and
hysteresis; the event of a change is decided by the new mask; the result is the pool state. Credits, settle count and queued events
stay. -/
def Obligations.WriteSettingsReplacesTheRecord : Prop :=
  ∀ (s : State) (r : Request) (answered : List Response) (queued : List Request) (x : Settings),
    s.Executing r answered queued → r.command = 0x03#8 → r.target = 0#8 → x.Valid → r.parameters = x.layout →
    let free := s.pool.freeCells.length
    let after := match s.pool.level with
      | .normal => if free < x.reserve then PoolLevel.low else .normal
      | .low => if x.reserve + x.hysteresis ≤ free then PoolLevel.normal else .low
    exec .writeSettings s = .next { s with
      settings := x
      pool := { s.pool with level := after }
      events := if after = s.pool.level then s.events else x.record s.events
        { kind := if after = .low then .poolLow else .poolNormal, streamTag := 0#8, drainTag := 255#8, serial := 0xFFFF#16
          detail := BitVec.ofNat 16 free }
      slots := answeredSlots answered (r.response .ok [if after = .low then 0x01#8 else 0x00#8]) queued s.resetPending }

/-- R22, R23, R99, R130: an accepted WRITE-STREAM replaces the configuration, clamps the remaining budget to the new one, and
evaluates the flow state of a stream that is not CLOSED against the new watermarks; the result is the flow state. -/
def Obligations.WriteStreamReplacesTheConfiguration : Prop :=
  ∀ (s : State) (r : Request) (answered : List Response) (queued : List Request) (t : Tag) (c : StreamConfig),
    s.Executing r answered queued → r.command = 0x05#8 → r.target.toNat = t.number → c.Valid → r.parameters = c.block →
    let x := s.stream t
    x.state = .closed ∨ c.drainTag = x.config.drainTag →
    let flow :=
      if x.state = .closed then x.flow
      else match x.flow with
        | .go => if c.highWatermark ≤ x.occupancy then FlowState.paused else .go
        | .paused => if x.occupancy ≤ c.lowWatermark then FlowState.go else .paused
    exec .writeStream s = .next { s.setStream t
        { x with config := c, budget := if c.replayBudget < x.budget then c.replayBudget else x.budget, flow := flow } with
      slots := answeredSlots answered (r.response .ok [if flow = .paused then 0x01#8 else 0x00#8]) queued s.resetPending }

/-- R8, R10, R18: OPEN-STREAM of a CLOSED stream whose drain tag no stream holds opens it at the start serial, or at 0: the pointers,
the timer, the budget, the overrun-reported flag, the map entry and the flow state follow; the result is the start serial. R16, R21:
RESTART-STREAM on a HALTED stream takes the cursor to head and returns the stream to OPEN with its budget reloaded and its timer IDLE;
the result is the head serial. -/
def Obligations.StreamsOpenAndRestart : Prop :=
  ∀ (s : State) (r : Request) (answered : List Response) (queued : List Request) (t : Tag),
    s.Executing r answered queued → r.target.toNat = t.number →
    let x := s.stream t
    let ok := fun serial : Serial => answeredSlots answered (r.response .ok (twoBytes serial.toNat)) queued s.resetPending
    (∀ start : Serial, r.command = 0x06#8 →
      r.parameters = twoBytes start.toNat ∨ (r.parameters = [] ∧ start = 0#12) →
      x.state = .closed → s.mapped x.config.drainTag = none →
      exec .openStream s = .next { (s.setStream t { x with
          state := .opened, head := start, cursor := start, reach := start, tail := start, timer := .idle
          budget := x.config.replayBudget, overrunReported := false
          flow := if x.config.highWatermark ≤ x.occupancy then .paused else .go }).setMapped x.config.drainTag (some t) with
        slots := ok start }) ∧
    (r.command = 0x09#8 → r.parameters = [] → x.state = .halted →
      exec .restartStream s = .next { s.setStream t { x with
          state := .opened, cursor := x.head, budget := x.config.replayBudget, timer := .idle } with
        slots := ok x.head })

/-- R11, R12, R19, R20, R149: CLOSE-STREAM. In DRAIN mode an OPEN stream with no resident frame enters CLOSED, answered OK with the
serial of its pointers and without an event; with some it enters DRAINING, answered ACCEPTED with their number. In DISCARD mode a stream
that is not CLOSED releases every resident frame, takes its pointers to the tail and enters CLOSED at once, without an event of the
stream; the frame in transmission becomes DEFERRED. -/
def Obligations.CloseStreamDrainsOrDiscards : Prop :=
  ∀ (s : State) (r : Request) (answered : List Response) (queued : List Request) (t : Tag),
    s.Executing r answered queued → r.command = 0x07#8 → r.target.toNat = t.number →
    let x := s.stream t
    let answer := fun (status : Status) (result : List Byte) => answeredSlots answered (r.response status result) queued s.resetPending
    (r.parameters = [0x00#8] → x.state = .opened → x.queue = [] →
      exec .closeStreamDrain s = .next { (s.setStream t { x with
          state := .closed, held := false, timer := .idle, closeRequested := false, flow := .go }).setMapped
          x.config.drainTag none with
        slots := answer .ok (twoBytes x.tail.toNat) }) ∧
    (r.parameters = [0x00#8] → x.state = .opened → x.queue ≠ [] →
      exec .closeStreamDrain s = .next { s.setStream t { x with state := .draining, closeRequested := true } with
        slots := answer .accepted (twoBytes x.queue.length) }) ∧
    (r.parameters = [0x01#8] → x.state ≠ .closed →
      ∃ u, exec .closeStreamDiscard s = .next u ∧ ReleasedTo s u x.queue ∧
        u.stream t = { x with
          queue := [], occupancy := x.occupancy - cellsOf x.queue, head := x.tail, cursor := x.tail, reach := x.tail
          state := .closed, held := false, timer := .idle, closeRequested := false, flow := .go } ∧
        OtherStreams s u t ∧ u.mapped x.config.drainTag = none ∧ OtherEntries s u x.config.drainTag ∧
        PoolFollows s u s.events ∧
        u = { s with streams := u.streams, drainMap := u.drainMap, pool := u.pool, drainTx := u.drainTx, events := u.events
                     slots := answer .ok (twoBytes x.tail.toNat) })

/-- R82, R83, R84: FLUSH-STREAM on a stream that is not CLOSED releases every resident frame, takes all four pointers to the new serial,
or to the old tail, and stops the timer; a DRAINING stream closes with outcome FLUSHED; the result is the serial and the number of frames
released. Budget, HELD, the overrun-reported flag, counters and configuration stay. -/
def Obligations.FlushStreamEmpties : Prop :=
  ∀ (s : State) (r : Request) (answered : List Response) (queued : List Request) (t : Tag) (serial : Serial),
    s.Executing r answered queued → r.command = 0x08#8 → r.target.toNat = t.number →
    let x := s.stream t
    r.parameters = twoBytes serial.toNat ∨ (r.parameters = [] ∧ serial = x.tail) → x.state ≠ .closed →
    ∃ u, exec .flushStream s = .next { u with
        slots := answeredSlots answered (r.response .ok (twoBytes serial.toNat ++ twoBytes x.queue.length)) queued
          s.resetPending } ∧
      ReleaseStep s u t x.queue.length
        { x with head := serial, cursor := serial, reach := serial, tail := serial, timer := .idle } 0x0002#16

/-- R143: CLEAR-NOTE empties its slot, or, while the note is in transmission, marks it clear-requested; it touches no indication; the
result is the slot's state before and the note number held, or 0. -/
def Obligations.ClearNoteClears : Prop :=
  ∀ (s : State) (r : Request) (answered : List Response) (queued : List Request) (back : Bool),
    s.Executing r answered queued → r.command = 0x0B#8 → r.target = 0#8 →
    r.parameters = [if back then 0x01#8 else 0x00#8] →
    let slot := if back then s.notes.back else s.notes.forward
    let cleared := fun (after : NoteSlot) (code number : Byte) => { s with
      notes := if back then { s.notes with back := after } else { s.notes with forward := after }
      slots := answeredSlots answered (r.response .ok [code, number]) queued s.resetPending }
    (slot = .empty → exec .clearNote s = .next (cleared .empty 0x00#8 0x00#8)) ∧
    (∀ n, slot = .waiting n → exec .clearNote s = .next (cleared .empty 0x01#8 n.number)) ∧
    (∀ n mark, slot = .sending n mark → exec .clearNote s = .next (cleared (.sending n true) 0x02#8 n.number)) ∧
    (∀ n, slot = .awaitingTaken n → exec .clearNote s = .next (cleared .empty 0x03#8 n.number))

/-- R85, R86, R167: DISCARD-ALL releases every resident frame of every stream that is not CLOSED, in ascending order of tag, takes their
pointers to the tail and stops their timers; OPEN stays OPEN with its budget, DRAINING closes with STREAM-CLOSED(DISCARDED) in order of
tag, HALTED reopens with its budget reloaded; the pool is evaluated once, at the end. -/
def Obligations.DiscardAllEmptiesEveryStream : Prop :=
  ∀ (s : State) (r : Request) (answered : List Response) (queued : List Request),
    s.Executing r answered queued → r.command = 0x0C#8 → r.target = 0#8 → r.parameters = [] →
    let open? := fun t : Tag => decide ((s.stream t).state ≠ .closed)
    let draining := fun t : Tag => decide ((s.stream t).state = .draining)
    let gone := (allTags.filter open?).flatMap fun t => (s.stream t).queue
    let closed := (allTags.filter draining).foldl (fun b t =>
      s.settings.record b (closedRecord t (s.stream t) (s.stream t).tail 0x0003#16)) s.events
    ∃ u, exec .discardAll s = .next u ∧ ReleasedTo s u gone ∧ PoolFollows s u closed ∧
      (∀ t,
        let x := s.stream t
        let occupancy := x.occupancy - cellsOf x.queue
        let emptied := { x with
          queue := [], occupancy := occupancy, head := x.tail, cursor := x.tail, reach := x.tail, timer := .idle
          flow := x.flowAt occupancy }
        (x.state = .closed → u.stream t = x) ∧
        (x.state = .opened → u.stream t = emptied) ∧
        (x.state = .draining → u.stream t = { emptied with
          state := .closed, held := false, closeRequested := false, flow := .go }) ∧
        (x.state = .halted → u.stream t = { emptied with state := .opened, budget := x.config.replayBudget })) ∧
      (∀ d, u.mapped d =
        if ∃ t, (s.stream t).state = .draining ∧ (s.stream t).config.drainTag = d then none else s.mapped d) ∧
      u = { s with streams := u.streams, drainMap := u.drainMap, pool := u.pool, drainTx := u.drainTx, events := u.events
                   slots := answeredSlots answered (r.response .ok
                     (BitVec.ofNat 8 (allTags.countP open?) :: twoBytes gone.length)) queued s.resetPending }

/-! ### The whole part -/

/-- R165, R166: an event whose enable is clear leaves no trace; an enabled one joins a queue of fewer than 16 records at its end, else
only the lost-event count rises, and stays at 65,535. -/
def Obligations.EventsAreMaskedQueuedOrLost : Prop :=
  ∀ (x : Settings) (b : EventBlock) (e : EventRecord),
    (x.enables e.kind = false → x.record b e = b) ∧
    (x.enables e.kind = true → b.queue.length < 16 → x.record b e = { queue := b.queue ++ [e], lost := b.lost }) ∧
    (x.enables e.kind = true → 16 ≤ b.queue.length → b.lost < 65535 →
      x.record b e = { queue := b.queue, lost := b.lost + 1 }) ∧
    (x.enables e.kind = true → 16 ≤ b.queue.length → b.lost = 65535 → x.record b e = b)

/-- R4, R6, R7, R22, R153: what has one owner is changed by nothing else: the sampled profile and AUTOOPEN level by a device reset,
the settings record by that and WRITE-SETTINGS, a stream's configuration by that and WRITE-STREAM, and a drain tag by neither while
its stream is not CLOSED. -/
def Obligations.OwnersAloneChange : Prop :=
  ∀ (c : Instr) (s t : State), exec c s = .next t →
    (∀ straps, c ≠ .deviceReset straps) → (∀ straps, c ≠ .responseComplete straps) →
    t.profile = s.profile ∧ t.autoopen = s.autoopen ∧ (c ≠ .writeSettings → t.settings = s.settings) ∧
      ∀ v, (c ≠ .writeStream → (t.stream v).config = (s.stream v).config) ∧
        ((s.stream v).state ≠ .closed → (t.stream v).config.drainTag = (s.stream v).config.drainTag)

/-- R172: while the part runs with RESET_N high, ATTN_N is low exactly while a stream is HALTED or the pool state is LOW. It is
computed from the state (log 24). -/
def Obligations.AttnFollowsHaltAndPool : Prop :=
  ∀ s : State, s.phase = .running → s.resetPin = .high →
    (s.attnN = false ↔ (∃ t, (s.stream t).state = .halted) ∨ s.pool.level = .low)

/-- The part right after reset keeps every range and law. The inputs' levels at `State.reset` are the model's choice (log 12), and
what an unwritten cell byte reads as (log 13). -/
def Obligations.ResetIsSafe : Prop := State.reset.InRange ∧ State.reset.Lawful

/-- Every command keeps every piece of state in the range that the spec gives it, and the cell memory in its canonical form. -/
def Obligations.EveryStepKeepsRanges : Prop := ∀ (s t : State), s.InRange → step s = .next t → t.InRange

/-- R7, R11, R13, R27, R35, R61, R88, R107, R135, R145, R147: every command keeps the laws of the running part: consecutive serials and
ordered pointers, the drain-tag map, each cell and each record held exactly once, the occupancies, the timers' conditions, the frame in
transmission, the note slots and the order of the request slots. In a lawful state a DATA transmission finds the frame at its cursor
(R61, R63), so that no command stops in a fault (log 29). A timer that is due
counts as RUNNING, and a carrier that has settled as SETTLING, until the step that is owed is taken (logs 3 and 4). -/
def Obligations.EveryStepKeepsLaws : Prop :=
  ∀ (s : State), s.InRange → s.Lawful → (∀ t, step s = .next t → t.Lawful) ∧ ∀ f, step s ≠ .fault f
end

