-- ==== Sys2Proof/Laws/Operands.lean ====
section
/-!
SUPPORT. What the link operands say: lane bytes and their values, header validity in the tables' terms, and the integrity tests
at a frame's end.
-/

namespace Sys2Proof.Machine

/-! ### Lane bytes -/

@[simp] theorem laneValues_length (bytes : List LaneByte) (n : Nat) : (laneValues n bytes).length = bytes.length := by
  induction bytes generalizing n with
  | nil => rfl
  | cons b rest ih => cases b <;> simp [laneValues, ih]

@[simp] theorem laneValues_data (values : List Byte) (n : Nat) : laneValues n (values.map LaneByte.data) = values := by
  induction values with
  | nil => rfl
  | cons b rest ih => simp [laneValues, ih]

@[simp] theorem undecodedCount_data (values : List Byte) : undecodedCount (values.map LaneByte.data) = 0 := by
  induction values with
  | nil => rfl
  | cons b rest ih => simpa [undecodedCount] using ih

theorem undecodedCount_goodBytes (running : CheckWord) (payload : List Byte) :
    undecodedCount (goodBytes running payload) = 0 := undecodedCount_data _

theorem laneValues_goodBytes (running : CheckWord) (payload : List Byte) (n : Nat) :
    laneValues n (goodBytes running payload) = payload ++ checkWordBytes (checkOutput (checkBytes running payload)) :=
  laneValues_data _ _

@[simp] theorem checkWordBytes_length (c : CheckWord) : (checkWordBytes c).length = 4 := rfl

theorem goodBytes_length (running : CheckWord) (payload : List Byte) :
    (goodBytes running payload).length = payload.length + 4 := by simp [goodBytes]

/-! ### Feed headers (R42) -/

theorem tagOfNumber_eq_some {n : Nat} {t : Tag} : Tag.ofNumber? n = some t ↔ t.number = n := by
  unfold Tag.ofNumber? Tag.number
  split
  · next h =>
    constructor
    · intro e; simp only [Option.some.injEq] at e; subst e; simp; omega
    · intro e; simp only [Option.some.injEq]; apply Fin.ext; simp; omega
  · next h =>
    constructor
    · intro e; cases e
    · intro e; exact absurd ⟨by omega, by have := t.isLt; omega⟩ h

theorem tagOfNumber_eq_none {n : Nat} : Tag.ofNumber? n = none ↔ n = 0 ∨ 63 < n := by
  unfold Tag.ofNumber?
  split
  · next h => constructor
              · intro e; cases e
              · omega
  · next h => constructor
              · intro _; omega
              · intro _; rfl

/-- A feed header is refused exactly where R42's table says that it is malformed. -/
theorem feedKind_eq_none (h : Header) : feedKind? h = none ↔ h.MalformedOnFeed := by
  unfold feedKind? Header.MalformedOnFeed serialInRange lengthIn Config.largestFrame kindData kindRequest kindNote kindNoteTaken
  by_cases hs : h.serial.toNat < 4096
  · by_cases hd : h.kind = 0x01#8
    · simp [hs, hd, tagOfNumber_eq_none]; omega
    · by_cases ht : h.tag = 0#8
      · by_cases h1 : h.kind = 0x31#8
        · simp [hs, h1, ht]; omega
        · by_cases h2 : h.kind = 0x21#8
          · simp [hs, h2, ht]; omega
          · by_cases h3 : h.kind = 0x22#8
            · simp [hs, h3, ht]; omega
            · simp [hs, hd, h1, h2, h3]
      · simp [hs, hd, ht]
  · simp [hs]; omega

/-- A well-formed DATA header asks for its stream. -/
theorem feedKind_data {h : Header} {t : Tag} (hm : ¬ h.MalformedOnFeed) (hk : h.kind = 0x01#8)
    (ht : t.number = h.tag.toNat) : feedKind? h = some (.data t) := by
  have hn : feedKind? h ≠ none := fun e => hm ((feedKind_eq_none h).1 e)
  unfold feedKind? at hn ⊢
  unfold kindData at hn ⊢
  split
  · next hs => simp [hs] at hn
  · next hs =>
    simp only [hs, hk, if_true] at hn ⊢
    split
    · next hl => rw [tagOfNumber_eq_some.2 ht]; rfl
    · next hl => simp [hl] at hn

/-- Any other well-formed header asks for staging. -/
theorem feedKind_staged {h : Header} (hm : ¬ h.MalformedOnFeed) (hk : h.kind ≠ 0x01#8) : feedKind? h = some .staged := by
  have hn : feedKind? h ≠ none := fun e => hm ((feedKind_eq_none h).1 e)
  unfold feedKind? kindData at hn ⊢
  split
  · next hs => simp [hs] at hn
  · next hs =>
    simp only [hk, if_false] at hn ⊢
    simp only [hs] at hn
    split
    · rfl
    · next h1 => split
                 · rfl
                 · next h2 => split
                              · rfl
                              · next h3 => simp [h1, h2, h3] at hn

/-- A staged header's kind and length (R175). -/
theorem feedKind_staged_inv {h : Header} (e : feedKind? h = some .staged) :
    (h.kind = 0x31#8 ∧ 3 ≤ h.length.toNat ∧ h.length.toNat ≤ 64) ∨
      (h.kind = 0x21#8 ∧ 1 ≤ h.length.toNat ∧ h.length.toNat ≤ 65) ∨ (h.kind = 0x22#8 ∧ h.length.toNat = 1) := by
  unfold feedKind? at e
  split at e
  · cases e
  · split at e
    · split at e
      · cases h' : Tag.ofNumber? h.tag.toNat <;> simp [h'] at e
      · cases e
    · split at e
      · next c => simp [lengthIn, kindRequest] at c; exact .inl ⟨c.1, by omega, by omega⟩
      · split at e
        · next c => simp [lengthIn, kindNote] at c; exact .inr (.inl ⟨c.1, by omega, by omega⟩)
        · split at e
          · next c => simp [lengthIn, kindNoteTaken] at c; exact .inr (.inr ⟨c.1, by omega⟩)
          · cases e

/-! ### Frame ends (R50, R51) -/

/-- The integrity tests at a frame's end, in the order of R51. -/
theorem frameVerdict_eq (running : CheckWord) (damaged : Bool) (length : Nat) (values : List Byte) :
    frameVerdict running damaged length values =
      if values.length ≠ length + 4 then .countMismatch
      else if damaged = true ∨
        values.drop length ≠ checkWordBytes (checkOutput (checkBytes running (values.take length)))
      then .checkMismatch else .good := by
  unfold frameVerdict
  split
  · rfl
  · cases damaged
    · simp [eq_comm]
    · simp

/-- A frame whose bytes are those of an undamaged one has none that could not be decoded, and its values are the payload and the
check word. -/
theorem goodBytes_split {received : List Byte} {symbols : List LaneSymbol} {running : CheckWord} {payload : List Byte}
    (h : received.map LaneByte.data ++ laneBytes symbols = goodBytes running payload) (n : Nat) :
    undecodedIn symbols = 0 ∧ received ++ laneValues n (laneBytes symbols) =
      payload ++ checkWordBytes (checkOutput (checkBytes running payload)) := by
  unfold goodBytes at h
  generalize payload ++ checkWordBytes (checkOutput (checkBytes running payload)) = values at h ⊢
  obtain ⟨a, b, rfl, ha, hb⟩ := List.map_eq_append_iff.1 h.symm
  obtain rfl := List.map_injective_iff.2 (fun _ _ e => LaneByte.data.inj e) ha
  exact ⟨by rw [undecodedIn, ← hb, undecodedCount_data], by rw [← hb, laneValues_data]⟩

theorem frameVerdict_goodBytes (running : CheckWord) (payload : List Byte) (length : Nat) (h : payload.length = length) :
    frameVerdict running false length (payload ++ checkWordBytes (checkOutput (checkBytes running payload))) = .good := by
  subst h; simp [frameVerdict_eq]

theorem framePayload_goodBytes (running : CheckWord) (payload : List Byte) (length : Nat) (h : payload.length = length) :
    framePayload length (payload ++ checkWordBytes (checkOutput (checkBytes running payload))) = payload := by
  subst h; simp [framePayload]

end Sys2Proof.Machine
end

