-- ==== Sys2Proof/Laws/State.lean ====
section
/-!
SUPPORT. One lemma for each field and each shared update of the state: which fields an update leaves as they were, and what
it writes where it writes. All are simp lemmas, so that no proof unfolds a record update.
-/

namespace Sys2Proof.Machine

variable (s : State)


/-! ### One stream record -/

@[simp] theorem State.stream_setStream_self (t : Tag) (x : Stream) : (s.setStream t x).stream t = x := by
  simp [State.setStream, State.stream]

theorem State.stream_setStream_ne {t u : Tag} (x : Stream) (h : u ≠ t) : (s.setStream t x).stream u = s.stream u := by
  have h' : t.val ≠ u.val := fun e => h (Fin.ext e.symm)
  simp [State.setStream, State.stream, Vector.getElem_set_ne, h']

theorem State.stream_setStream (t u : Tag) (x : Stream) :
    (s.setStream t x).stream u = if u = t then x else s.stream u := by
  split
  · next h => subst h; simp
  · next h => exact s.stream_setStream_ne x h

@[simp] theorem State.setStream_phase (t : Tag) (x : Stream) : (s.setStream t x).phase = s.phase := by
  simp only [State.setStream]
@[simp] theorem State.setStream_resetPin (t : Tag) (x : Stream) : (s.setStream t x).resetPin = s.resetPin := by
  simp only [State.setStream]
@[simp] theorem State.setStream_carrierPin (t : Tag) (x : Stream) : (s.setStream t x).carrierPin = s.carrierPin := by
  simp only [State.setStream]
@[simp] theorem State.setStream_profile (t : Tag) (x : Stream) : (s.setStream t x).profile = s.profile := by
  simp only [State.setStream]
@[simp] theorem State.setStream_autoopen (t : Tag) (x : Stream) : (s.setStream t x).autoopen = s.autoopen := by
  simp only [State.setStream]
@[simp] theorem State.setStream_drainMap (t : Tag) (x : Stream) : (s.setStream t x).drainMap = s.drainMap := by
  simp only [State.setStream]
@[simp] theorem State.setStream_cells (t : Tag) (x : Stream) : (s.setStream t x).cells = s.cells := by
  simp only [State.setStream]
@[simp] theorem State.setStream_pool (t : Tag) (x : Stream) : (s.setStream t x).pool = s.pool := by
  simp only [State.setStream]
@[simp] theorem State.setStream_sentPool (t : Tag) (x : Stream) : (s.setStream t x).sentPool = s.sentPool := by
  simp only [State.setStream]
@[simp] theorem State.setStream_flowPosition (t : Tag) (x : Stream) : (s.setStream t x).flowPosition = s.flowPosition := by
  simp only [State.setStream]
@[simp] theorem State.setStream_feedRx (t : Tag) (x : Stream) : (s.setStream t x).feedRx = s.feedRx := by
  simp only [State.setStream]
@[simp] theorem State.setStream_feedTx (t : Tag) (x : Stream) : (s.setStream t x).feedTx = s.feedTx := by
  simp only [State.setStream]
@[simp] theorem State.setStream_drainTx (t : Tag) (x : Stream) : (s.setStream t x).drainTx = s.drainTx := by
  simp only [State.setStream]
@[simp] theorem State.setStream_carrier (t : Tag) (x : Stream) : (s.setStream t x).carrier = s.carrier := by
  simp only [State.setStream]
@[simp] theorem State.setStream_credits (t : Tag) (x : Stream) : (s.setStream t x).credits = s.credits := by
  simp only [State.setStream]
@[simp] theorem State.setStream_positions (t : Tag) (x : Stream) : (s.setStream t x).positions = s.positions := by
  simp only [State.setStream]
@[simp] theorem State.setStream_notes (t : Tag) (x : Stream) : (s.setStream t x).notes = s.notes := by
  simp only [State.setStream]
@[simp] theorem State.setStream_slots (t : Tag) (x : Stream) : (s.setStream t x).slots = s.slots := by
  simp only [State.setStream]
@[simp] theorem State.setStream_resetPending (t : Tag) (x : Stream) : (s.setStream t x).resetPending = s.resetPending := by
  simp only [State.setStream]
@[simp] theorem State.setStream_settings (t : Tag) (x : Stream) : (s.setStream t x).settings = s.settings := by
  simp only [State.setStream]
@[simp] theorem State.setStream_port (t : Tag) (x : Stream) : (s.setStream t x).port = s.port := by
  simp only [State.setStream]
@[simp] theorem State.setStream_events (t : Tag) (x : Stream) : (s.setStream t x).events = s.events := by
  simp only [State.setStream]
@[simp] theorem State.setStream_drainRx (t : Tag) (x : Stream) : (s.setStream t x).drainRx = s.drainRx := by
  simp only [State.setStream]
@[simp] theorem State.setStream_freeCount (t : Tag) (x : Stream) : (s.setStream t x).freeCount = s.freeCount := by
  simp only [State.setStream]
@[simp] theorem State.setStream_atTick (t : Tag) (x : Stream) : (s.setStream t x).atTick = s.atTick := by
  simp only [State.setStream]
@[simp] theorem State.setStream_pending (t : Tag) (x : Stream) : (s.setStream t x).pending = s.pending := by
  simp only [State.setStream]

theorem State.updateStream_eq (t : Tag) (f : Stream → Stream) : s.updateStream t f = s.setStream t (f (s.stream t)) := rfl

@[simp] theorem State.stream_updateStream_self (t : Tag) (f : Stream → Stream) :
    (s.updateStream t f).stream t = f (s.stream t) := by simp [State.updateStream]

theorem State.stream_updateStream_ne {t u : Tag} (f : Stream → Stream) (h : u ≠ t) :
    (s.updateStream t f).stream u = s.stream u := by simp [State.updateStream, State.stream_setStream_ne, h]

theorem State.stream_updateStream (t u : Tag) (f : Stream → Stream) :
    (s.updateStream t f).stream u = if u = t then f (s.stream t) else s.stream u := by
  simp [State.updateStream, State.stream_setStream]

@[simp] theorem State.updateStream_phase (t : Tag) (f : Stream → Stream) : (s.updateStream t f).phase = s.phase := by
  simp only [State.updateStream, State.setStream]
@[simp] theorem State.updateStream_resetPin (t : Tag) (f : Stream → Stream) : (s.updateStream t f).resetPin = s.resetPin := by
  simp only [State.updateStream, State.setStream]
@[simp] theorem State.updateStream_carrierPin (t : Tag) (f : Stream → Stream) : (s.updateStream t f).carrierPin = s.carrierPin := by
  simp only [State.updateStream, State.setStream]
@[simp] theorem State.updateStream_profile (t : Tag) (f : Stream → Stream) : (s.updateStream t f).profile = s.profile := by
  simp only [State.updateStream, State.setStream]
@[simp] theorem State.updateStream_autoopen (t : Tag) (f : Stream → Stream) : (s.updateStream t f).autoopen = s.autoopen := by
  simp only [State.updateStream, State.setStream]
@[simp] theorem State.updateStream_drainMap (t : Tag) (f : Stream → Stream) : (s.updateStream t f).drainMap = s.drainMap := by
  simp only [State.updateStream, State.setStream]
@[simp] theorem State.updateStream_cells (t : Tag) (f : Stream → Stream) : (s.updateStream t f).cells = s.cells := by
  simp only [State.updateStream, State.setStream]
@[simp] theorem State.updateStream_pool (t : Tag) (f : Stream → Stream) : (s.updateStream t f).pool = s.pool := by
  simp only [State.updateStream, State.setStream]
@[simp] theorem State.updateStream_sentPool (t : Tag) (f : Stream → Stream) : (s.updateStream t f).sentPool = s.sentPool := by
  simp only [State.updateStream, State.setStream]
@[simp] theorem State.updateStream_flowPosition (t : Tag) (f : Stream → Stream) : (s.updateStream t f).flowPosition = s.flowPosition := by
  simp only [State.updateStream, State.setStream]
@[simp] theorem State.updateStream_feedRx (t : Tag) (f : Stream → Stream) : (s.updateStream t f).feedRx = s.feedRx := by
  simp only [State.updateStream, State.setStream]
@[simp] theorem State.updateStream_feedTx (t : Tag) (f : Stream → Stream) : (s.updateStream t f).feedTx = s.feedTx := by
  simp only [State.updateStream, State.setStream]
@[simp] theorem State.updateStream_drainTx (t : Tag) (f : Stream → Stream) : (s.updateStream t f).drainTx = s.drainTx := by
  simp only [State.updateStream, State.setStream]
@[simp] theorem State.updateStream_carrier (t : Tag) (f : Stream → Stream) : (s.updateStream t f).carrier = s.carrier := by
  simp only [State.updateStream, State.setStream]
@[simp] theorem State.updateStream_credits (t : Tag) (f : Stream → Stream) : (s.updateStream t f).credits = s.credits := by
  simp only [State.updateStream, State.setStream]
@[simp] theorem State.updateStream_positions (t : Tag) (f : Stream → Stream) : (s.updateStream t f).positions = s.positions := by
  simp only [State.updateStream, State.setStream]
@[simp] theorem State.updateStream_notes (t : Tag) (f : Stream → Stream) : (s.updateStream t f).notes = s.notes := by
  simp only [State.updateStream, State.setStream]
@[simp] theorem State.updateStream_slots (t : Tag) (f : Stream → Stream) : (s.updateStream t f).slots = s.slots := by
  simp only [State.updateStream, State.setStream]
@[simp] theorem State.updateStream_resetPending (t : Tag) (f : Stream → Stream) : (s.updateStream t f).resetPending = s.resetPending := by
  simp only [State.updateStream, State.setStream]
@[simp] theorem State.updateStream_settings (t : Tag) (f : Stream → Stream) : (s.updateStream t f).settings = s.settings := by
  simp only [State.updateStream, State.setStream]
@[simp] theorem State.updateStream_port (t : Tag) (f : Stream → Stream) : (s.updateStream t f).port = s.port := by
  simp only [State.updateStream, State.setStream]
@[simp] theorem State.updateStream_events (t : Tag) (f : Stream → Stream) : (s.updateStream t f).events = s.events := by
  simp only [State.updateStream, State.setStream]
@[simp] theorem State.updateStream_drainRx (t : Tag) (f : Stream → Stream) : (s.updateStream t f).drainRx = s.drainRx := by
  simp only [State.updateStream, State.setStream]
@[simp] theorem State.updateStream_freeCount (t : Tag) (f : Stream → Stream) : (s.updateStream t f).freeCount = s.freeCount := by
  simp only [State.updateStream, State.setStream]
@[simp] theorem State.updateStream_atTick (t : Tag) (f : Stream → Stream) : (s.updateStream t f).atTick = s.atTick := by
  simp only [State.updateStream, State.setStream]
@[simp] theorem State.updateStream_pending (t : Tag) (f : Stream → Stream) : (s.updateStream t f).pending = s.pending := by
  simp only [State.updateStream, State.setStream]

/-! ### All stream records -/

@[simp] theorem State.stream_mapStreams (f : Stream → Stream) (t : Tag) :
    (s.mapStreams f).stream t = f (s.stream t) := by
  simp [State.mapStreams, State.stream]

@[simp] theorem State.mapStreams_phase (f : Stream → Stream) : (s.mapStreams f).phase = s.phase := by
  simp only [State.mapStreams]
@[simp] theorem State.mapStreams_resetPin (f : Stream → Stream) : (s.mapStreams f).resetPin = s.resetPin := by
  simp only [State.mapStreams]
@[simp] theorem State.mapStreams_carrierPin (f : Stream → Stream) : (s.mapStreams f).carrierPin = s.carrierPin := by
  simp only [State.mapStreams]
@[simp] theorem State.mapStreams_profile (f : Stream → Stream) : (s.mapStreams f).profile = s.profile := by
  simp only [State.mapStreams]
@[simp] theorem State.mapStreams_autoopen (f : Stream → Stream) : (s.mapStreams f).autoopen = s.autoopen := by
  simp only [State.mapStreams]
@[simp] theorem State.mapStreams_drainMap (f : Stream → Stream) : (s.mapStreams f).drainMap = s.drainMap := by
  simp only [State.mapStreams]
@[simp] theorem State.mapStreams_cells (f : Stream → Stream) : (s.mapStreams f).cells = s.cells := by
  simp only [State.mapStreams]
@[simp] theorem State.mapStreams_pool (f : Stream → Stream) : (s.mapStreams f).pool = s.pool := by
  simp only [State.mapStreams]
@[simp] theorem State.mapStreams_sentPool (f : Stream → Stream) : (s.mapStreams f).sentPool = s.sentPool := by
  simp only [State.mapStreams]
@[simp] theorem State.mapStreams_flowPosition (f : Stream → Stream) : (s.mapStreams f).flowPosition = s.flowPosition := by
  simp only [State.mapStreams]
@[simp] theorem State.mapStreams_feedRx (f : Stream → Stream) : (s.mapStreams f).feedRx = s.feedRx := by
  simp only [State.mapStreams]
@[simp] theorem State.mapStreams_feedTx (f : Stream → Stream) : (s.mapStreams f).feedTx = s.feedTx := by
  simp only [State.mapStreams]
@[simp] theorem State.mapStreams_drainTx (f : Stream → Stream) : (s.mapStreams f).drainTx = s.drainTx := by
  simp only [State.mapStreams]
@[simp] theorem State.mapStreams_carrier (f : Stream → Stream) : (s.mapStreams f).carrier = s.carrier := by
  simp only [State.mapStreams]
@[simp] theorem State.mapStreams_credits (f : Stream → Stream) : (s.mapStreams f).credits = s.credits := by
  simp only [State.mapStreams]
@[simp] theorem State.mapStreams_positions (f : Stream → Stream) : (s.mapStreams f).positions = s.positions := by
  simp only [State.mapStreams]
@[simp] theorem State.mapStreams_notes (f : Stream → Stream) : (s.mapStreams f).notes = s.notes := by
  simp only [State.mapStreams]
@[simp] theorem State.mapStreams_slots (f : Stream → Stream) : (s.mapStreams f).slots = s.slots := by
  simp only [State.mapStreams]
@[simp] theorem State.mapStreams_resetPending (f : Stream → Stream) : (s.mapStreams f).resetPending = s.resetPending := by
  simp only [State.mapStreams]
@[simp] theorem State.mapStreams_settings (f : Stream → Stream) : (s.mapStreams f).settings = s.settings := by
  simp only [State.mapStreams]
@[simp] theorem State.mapStreams_port (f : Stream → Stream) : (s.mapStreams f).port = s.port := by
  simp only [State.mapStreams]
@[simp] theorem State.mapStreams_events (f : Stream → Stream) : (s.mapStreams f).events = s.events := by
  simp only [State.mapStreams]
@[simp] theorem State.mapStreams_drainRx (f : Stream → Stream) : (s.mapStreams f).drainRx = s.drainRx := by
  simp only [State.mapStreams]
@[simp] theorem State.mapStreams_freeCount (f : Stream → Stream) : (s.mapStreams f).freeCount = s.freeCount := by
  simp only [State.mapStreams]
@[simp] theorem State.mapStreams_atTick (f : Stream → Stream) : (s.mapStreams f).atTick = s.atTick := by
  simp only [State.mapStreams]
@[simp] theorem State.mapStreams_pending (f : Stream → Stream) : (s.mapStreams f).pending = s.pending := by
  simp only [State.mapStreams]

/-! ### The drain-tag map -/

@[simp] theorem State.mapped_setMapped_self (d : DrainTag) (e : Option Tag) : (s.setMapped d e).mapped d = e := by
  simp [State.setMapped, State.mapped]

theorem State.mapped_setMapped_ne {d c : DrainTag} (e : Option Tag) (h : c ≠ d) :
    (s.setMapped d e).mapped c = s.mapped c := by
  have h' : d.val ≠ c.val := fun x => h (Fin.ext x.symm)
  simp [State.setMapped, State.mapped, Vector.getElem_set_ne, h']

theorem State.mapped_setMapped (d c : DrainTag) (e : Option Tag) :
    (s.setMapped d e).mapped c = if c = d then e else s.mapped c := by
  split
  · next h => subst h; simp
  · next h => exact s.mapped_setMapped_ne e h

@[simp] theorem State.mapped_setStream (t : Tag) (x : Stream) (d : DrainTag) : (s.setStream t x).mapped d = s.mapped d := by
  simp only [State.mapped, State.setStream_drainMap]
@[simp] theorem State.mapped_updateStream (t : Tag) (f : Stream → Stream) (d : DrainTag) :
    (s.updateStream t f).mapped d = s.mapped d := by
  simp only [State.mapped, State.updateStream_drainMap]
@[simp] theorem State.mapped_mapStreams (f : Stream → Stream) (d : DrainTag) : (s.mapStreams f).mapped d = s.mapped d := by
  simp only [State.mapped, State.mapStreams_drainMap]
@[simp] theorem State.stream_setMapped (d : DrainTag) (e : Option Tag) (t : Tag) :
    (s.setMapped d e).stream t = s.stream t := by
  simp only [State.stream, State.setMapped]

@[simp] theorem State.setMapped_phase (d : DrainTag) (e : Option Tag) : (s.setMapped d e).phase = s.phase := by
  simp only [State.setMapped]
@[simp] theorem State.setMapped_resetPin (d : DrainTag) (e : Option Tag) : (s.setMapped d e).resetPin = s.resetPin := by
  simp only [State.setMapped]
@[simp] theorem State.setMapped_carrierPin (d : DrainTag) (e : Option Tag) : (s.setMapped d e).carrierPin = s.carrierPin := by
  simp only [State.setMapped]
@[simp] theorem State.setMapped_profile (d : DrainTag) (e : Option Tag) : (s.setMapped d e).profile = s.profile := by
  simp only [State.setMapped]
@[simp] theorem State.setMapped_autoopen (d : DrainTag) (e : Option Tag) : (s.setMapped d e).autoopen = s.autoopen := by
  simp only [State.setMapped]
@[simp] theorem State.setMapped_streams (d : DrainTag) (e : Option Tag) : (s.setMapped d e).streams = s.streams := by
  simp only [State.setMapped]
@[simp] theorem State.setMapped_cells (d : DrainTag) (e : Option Tag) : (s.setMapped d e).cells = s.cells := by
  simp only [State.setMapped]
@[simp] theorem State.setMapped_pool (d : DrainTag) (e : Option Tag) : (s.setMapped d e).pool = s.pool := by
  simp only [State.setMapped]
@[simp] theorem State.setMapped_sentPool (d : DrainTag) (e : Option Tag) : (s.setMapped d e).sentPool = s.sentPool := by
  simp only [State.setMapped]
@[simp] theorem State.setMapped_flowPosition (d : DrainTag) (e : Option Tag) : (s.setMapped d e).flowPosition = s.flowPosition := by
  simp only [State.setMapped]
@[simp] theorem State.setMapped_feedRx (d : DrainTag) (e : Option Tag) : (s.setMapped d e).feedRx = s.feedRx := by
  simp only [State.setMapped]
@[simp] theorem State.setMapped_feedTx (d : DrainTag) (e : Option Tag) : (s.setMapped d e).feedTx = s.feedTx := by
  simp only [State.setMapped]
@[simp] theorem State.setMapped_drainTx (d : DrainTag) (e : Option Tag) : (s.setMapped d e).drainTx = s.drainTx := by
  simp only [State.setMapped]
@[simp] theorem State.setMapped_carrier (d : DrainTag) (e : Option Tag) : (s.setMapped d e).carrier = s.carrier := by
  simp only [State.setMapped]
@[simp] theorem State.setMapped_credits (d : DrainTag) (e : Option Tag) : (s.setMapped d e).credits = s.credits := by
  simp only [State.setMapped]
@[simp] theorem State.setMapped_positions (d : DrainTag) (e : Option Tag) : (s.setMapped d e).positions = s.positions := by
  simp only [State.setMapped]
@[simp] theorem State.setMapped_notes (d : DrainTag) (e : Option Tag) : (s.setMapped d e).notes = s.notes := by
  simp only [State.setMapped]
@[simp] theorem State.setMapped_slots (d : DrainTag) (e : Option Tag) : (s.setMapped d e).slots = s.slots := by
  simp only [State.setMapped]
@[simp] theorem State.setMapped_resetPending (d : DrainTag) (e : Option Tag) : (s.setMapped d e).resetPending = s.resetPending := by
  simp only [State.setMapped]
@[simp] theorem State.setMapped_settings (d : DrainTag) (e : Option Tag) : (s.setMapped d e).settings = s.settings := by
  simp only [State.setMapped]
@[simp] theorem State.setMapped_port (d : DrainTag) (e : Option Tag) : (s.setMapped d e).port = s.port := by
  simp only [State.setMapped]
@[simp] theorem State.setMapped_events (d : DrainTag) (e : Option Tag) : (s.setMapped d e).events = s.events := by
  simp only [State.setMapped]
@[simp] theorem State.setMapped_drainRx (d : DrainTag) (e : Option Tag) : (s.setMapped d e).drainRx = s.drainRx := by
  simp only [State.setMapped]
@[simp] theorem State.setMapped_freeCount (d : DrainTag) (e : Option Tag) : (s.setMapped d e).freeCount = s.freeCount := by
  simp only [State.setMapped]
@[simp] theorem State.setMapped_atTick (d : DrainTag) (e : Option Tag) : (s.setMapped d e).atTick = s.atTick := by
  simp only [State.setMapped]
@[simp] theorem State.setMapped_pending (d : DrainTag) (e : Option Tag) : (s.setMapped d e).pending = s.pending := by
  simp only [State.setMapped]

/-! ### Events -/

/-- What raising an event does: it acts on the event block alone (R164 to R166). -/
theorem State.raise_eq (e : EventRecord) :
    s.raise e = { s with events := if s.settings.enables e.kind then s.events.store e else s.events } := by
  unfold State.raise; split <;> rfl

@[simp] theorem State.stream_raise (e : EventRecord) (t : Tag) : (s.raise e).stream t = s.stream t := by
  rw [State.raise_eq]; rfl
@[simp] theorem State.mapped_raise (e : EventRecord) (d : DrainTag) : (s.raise e).mapped d = s.mapped d := by
  rw [State.raise_eq]; rfl

@[simp] theorem State.raise_phase (e : EventRecord) : (s.raise e).phase = s.phase := by rw [State.raise_eq]
@[simp] theorem State.raise_resetPin (e : EventRecord) : (s.raise e).resetPin = s.resetPin := by rw [State.raise_eq]
@[simp] theorem State.raise_carrierPin (e : EventRecord) : (s.raise e).carrierPin = s.carrierPin := by rw [State.raise_eq]
@[simp] theorem State.raise_profile (e : EventRecord) : (s.raise e).profile = s.profile := by rw [State.raise_eq]
@[simp] theorem State.raise_autoopen (e : EventRecord) : (s.raise e).autoopen = s.autoopen := by rw [State.raise_eq]
@[simp] theorem State.raise_streams (e : EventRecord) : (s.raise e).streams = s.streams := by rw [State.raise_eq]
@[simp] theorem State.raise_drainMap (e : EventRecord) : (s.raise e).drainMap = s.drainMap := by rw [State.raise_eq]
@[simp] theorem State.raise_cells (e : EventRecord) : (s.raise e).cells = s.cells := by rw [State.raise_eq]
@[simp] theorem State.raise_pool (e : EventRecord) : (s.raise e).pool = s.pool := by rw [State.raise_eq]
@[simp] theorem State.raise_sentPool (e : EventRecord) : (s.raise e).sentPool = s.sentPool := by rw [State.raise_eq]
@[simp] theorem State.raise_flowPosition (e : EventRecord) : (s.raise e).flowPosition = s.flowPosition := by rw [State.raise_eq]
@[simp] theorem State.raise_feedRx (e : EventRecord) : (s.raise e).feedRx = s.feedRx := by rw [State.raise_eq]
@[simp] theorem State.raise_feedTx (e : EventRecord) : (s.raise e).feedTx = s.feedTx := by rw [State.raise_eq]
@[simp] theorem State.raise_drainTx (e : EventRecord) : (s.raise e).drainTx = s.drainTx := by rw [State.raise_eq]
@[simp] theorem State.raise_carrier (e : EventRecord) : (s.raise e).carrier = s.carrier := by rw [State.raise_eq]
@[simp] theorem State.raise_credits (e : EventRecord) : (s.raise e).credits = s.credits := by rw [State.raise_eq]
@[simp] theorem State.raise_positions (e : EventRecord) : (s.raise e).positions = s.positions := by rw [State.raise_eq]
@[simp] theorem State.raise_notes (e : EventRecord) : (s.raise e).notes = s.notes := by rw [State.raise_eq]
@[simp] theorem State.raise_slots (e : EventRecord) : (s.raise e).slots = s.slots := by rw [State.raise_eq]
@[simp] theorem State.raise_resetPending (e : EventRecord) : (s.raise e).resetPending = s.resetPending := by rw [State.raise_eq]
@[simp] theorem State.raise_settings (e : EventRecord) : (s.raise e).settings = s.settings := by rw [State.raise_eq]
@[simp] theorem State.raise_port (e : EventRecord) : (s.raise e).port = s.port := by rw [State.raise_eq]
@[simp] theorem State.raise_drainRx (e : EventRecord) : (s.raise e).drainRx = s.drainRx := by rw [State.raise_eq]
@[simp] theorem State.raise_freeCount (e : EventRecord) : (s.raise e).freeCount = s.freeCount := by rw [State.raise_eq]
@[simp] theorem State.raise_atTick (e : EventRecord) : (s.raise e).atTick = s.atTick := by rw [State.raise_eq]
@[simp] theorem State.raise_pending (e : EventRecord) : (s.raise e).pending = s.pending := by rw [State.raise_eq]

/-! ### Counters and free values -/

theorem State.countFeedMalformed_frame : s.countFeedMalformed = { s with port := s.countFeedMalformed.port } := rfl
@[simp] theorem State.stream_countFeedMalformed (t : Tag) : s.countFeedMalformed.stream t = s.stream t := rfl
@[simp] theorem State.countFeedMalformed_events : s.countFeedMalformed.events = s.events := rfl
@[simp] theorem State.countFeedMalformed_settings : s.countFeedMalformed.settings = s.settings := rfl
theorem State.countFeedCheckError_frame : s.countFeedCheckError = { s with port := s.countFeedCheckError.port } := rfl
@[simp] theorem State.stream_countFeedCheckError (t : Tag) : s.countFeedCheckError.stream t = s.stream t := rfl
@[simp] theorem State.countFeedCheckError_events : s.countFeedCheckError.events = s.events := rfl
@[simp] theorem State.countFeedCheckError_settings : s.countFeedCheckError.settings = s.settings := rfl
theorem State.countDrainMalformed_frame : s.countDrainMalformed = { s with port := s.countDrainMalformed.port } := rfl
@[simp] theorem State.stream_countDrainMalformed (t : Tag) : s.countDrainMalformed.stream t = s.stream t := rfl
@[simp] theorem State.countDrainMalformed_events : s.countDrainMalformed.events = s.events := rfl
@[simp] theorem State.countDrainMalformed_settings : s.countDrainMalformed.settings = s.settings := rfl
theorem State.countDrainCheckError_frame : s.countDrainCheckError = { s with port := s.countDrainCheckError.port } := rfl
@[simp] theorem State.stream_countDrainCheckError (t : Tag) : s.countDrainCheckError.stream t = s.stream t := rfl
@[simp] theorem State.countDrainCheckError_events : s.countDrainCheckError.events = s.events := rfl
@[simp] theorem State.countDrainCheckError_settings : s.countDrainCheckError.settings = s.settings := rfl
theorem State.countDrainStray_frame : s.countDrainStray = { s with port := s.countDrainStray.port } := rfl
@[simp] theorem State.stream_countDrainStray (t : Tag) : s.countDrainStray.stream t = s.stream t := rfl
@[simp] theorem State.countDrainStray_events : s.countDrainStray.events = s.events := rfl
@[simp] theorem State.countDrainStray_settings : s.countDrainStray.settings = s.settings := rfl
theorem State.countNoteStray_frame : s.countNoteStray = { s with port := s.countNoteStray.port } := rfl
@[simp] theorem State.stream_countNoteStray (t : Tag) : s.countNoteStray.stream t = s.stream t := rfl
@[simp] theorem State.countNoteStray_events : s.countNoteStray.events = s.events := rfl
@[simp] theorem State.countNoteStray_settings : s.countNoteStray.settings = s.settings := rfl
theorem State.countRequestLost_frame : s.countRequestLost = { s with port := s.countRequestLost.port } := rfl
@[simp] theorem State.stream_countRequestLost (t : Tag) : s.countRequestLost.stream t = s.stream t := rfl
@[simp] theorem State.countRequestLost_events : s.countRequestLost.events = s.events := rfl
@[simp] theorem State.countRequestLost_settings : s.countRequestLost.settings = s.settings := rfl

@[simp] theorem State.drawFree_phase (n : Nat) : (s.drawFree n).phase = s.phase := rfl
@[simp] theorem State.drawFree_resetPin (n : Nat) : (s.drawFree n).resetPin = s.resetPin := rfl
@[simp] theorem State.drawFree_carrierPin (n : Nat) : (s.drawFree n).carrierPin = s.carrierPin := rfl
@[simp] theorem State.drawFree_profile (n : Nat) : (s.drawFree n).profile = s.profile := rfl
@[simp] theorem State.drawFree_autoopen (n : Nat) : (s.drawFree n).autoopen = s.autoopen := rfl
@[simp] theorem State.drawFree_streams (n : Nat) : (s.drawFree n).streams = s.streams := rfl
@[simp] theorem State.drawFree_drainMap (n : Nat) : (s.drawFree n).drainMap = s.drainMap := rfl
@[simp] theorem State.drawFree_cells (n : Nat) : (s.drawFree n).cells = s.cells := rfl
@[simp] theorem State.drawFree_pool (n : Nat) : (s.drawFree n).pool = s.pool := rfl
@[simp] theorem State.drawFree_sentPool (n : Nat) : (s.drawFree n).sentPool = s.sentPool := rfl
@[simp] theorem State.drawFree_flowPosition (n : Nat) : (s.drawFree n).flowPosition = s.flowPosition := rfl
@[simp] theorem State.drawFree_feedRx (n : Nat) : (s.drawFree n).feedRx = s.feedRx := rfl
@[simp] theorem State.drawFree_drainRx (n : Nat) : (s.drawFree n).drainRx = s.drainRx := rfl
@[simp] theorem State.drawFree_feedTx (n : Nat) : (s.drawFree n).feedTx = s.feedTx := rfl
@[simp] theorem State.drawFree_drainTx (n : Nat) : (s.drawFree n).drainTx = s.drainTx := rfl
@[simp] theorem State.drawFree_carrier (n : Nat) : (s.drawFree n).carrier = s.carrier := rfl
@[simp] theorem State.drawFree_credits (n : Nat) : (s.drawFree n).credits = s.credits := rfl
@[simp] theorem State.drawFree_positions (n : Nat) : (s.drawFree n).positions = s.positions := rfl
@[simp] theorem State.drawFree_notes (n : Nat) : (s.drawFree n).notes = s.notes := rfl
@[simp] theorem State.drawFree_slots (n : Nat) : (s.drawFree n).slots = s.slots := rfl
@[simp] theorem State.drawFree_resetPending (n : Nat) : (s.drawFree n).resetPending = s.resetPending := rfl
@[simp] theorem State.drawFree_settings (n : Nat) : (s.drawFree n).settings = s.settings := rfl
@[simp] theorem State.drawFree_port (n : Nat) : (s.drawFree n).port = s.port := rfl
@[simp] theorem State.drawFree_events (n : Nat) : (s.drawFree n).events = s.events := rfl
@[simp] theorem State.drawFree_pending (n : Nat) : (s.drawFree n).pending = s.pending := rfl
@[simp] theorem State.drawFree_freeCount (n : Nat) : (s.drawFree n).freeCount = s.freeCount + n := rfl
@[simp] theorem State.drawFree_atTick (n : Nat) : (s.drawFree n).atTick = s.atTick := rfl
@[simp] theorem State.drawFree_zero : s.drawFree 0 = s := rfl
@[simp] theorem State.stream_drawFree (n : Nat) (t : Tag) : (s.drawFree n).stream t = s.stream t := rfl
@[simp] theorem State.mapped_drawFree (n : Nat) (d : DrainTag) : (s.drawFree n).mapped d = s.mapped d := rfl

/-! ### The receivers and the feed transmitter -/

@[simp] theorem State.setFeedRx_self (r : FeedReceiver) : (s.setFeedRx r).feedRx = r := rfl
@[simp] theorem State.setFeedRx_phase (r : FeedReceiver) : (s.setFeedRx r).phase = s.phase := rfl
@[simp] theorem State.setFeedRx_resetPin (r : FeedReceiver) : (s.setFeedRx r).resetPin = s.resetPin := rfl
@[simp] theorem State.setFeedRx_carrierPin (r : FeedReceiver) : (s.setFeedRx r).carrierPin = s.carrierPin := rfl
@[simp] theorem State.setFeedRx_profile (r : FeedReceiver) : (s.setFeedRx r).profile = s.profile := rfl
@[simp] theorem State.setFeedRx_autoopen (r : FeedReceiver) : (s.setFeedRx r).autoopen = s.autoopen := rfl
@[simp] theorem State.setFeedRx_streams (r : FeedReceiver) : (s.setFeedRx r).streams = s.streams := rfl
@[simp] theorem State.setFeedRx_drainMap (r : FeedReceiver) : (s.setFeedRx r).drainMap = s.drainMap := rfl
@[simp] theorem State.setFeedRx_cells (r : FeedReceiver) : (s.setFeedRx r).cells = s.cells := rfl
@[simp] theorem State.setFeedRx_pool (r : FeedReceiver) : (s.setFeedRx r).pool = s.pool := rfl
@[simp] theorem State.setFeedRx_sentPool (r : FeedReceiver) : (s.setFeedRx r).sentPool = s.sentPool := rfl
@[simp] theorem State.setFeedRx_flowPosition (r : FeedReceiver) : (s.setFeedRx r).flowPosition = s.flowPosition := rfl
@[simp] theorem State.setFeedRx_feedTx (r : FeedReceiver) : (s.setFeedRx r).feedTx = s.feedTx := rfl
@[simp] theorem State.setFeedRx_drainTx (r : FeedReceiver) : (s.setFeedRx r).drainTx = s.drainTx := rfl
@[simp] theorem State.setFeedRx_carrier (r : FeedReceiver) : (s.setFeedRx r).carrier = s.carrier := rfl
@[simp] theorem State.setFeedRx_credits (r : FeedReceiver) : (s.setFeedRx r).credits = s.credits := rfl
@[simp] theorem State.setFeedRx_positions (r : FeedReceiver) : (s.setFeedRx r).positions = s.positions := rfl
@[simp] theorem State.setFeedRx_notes (r : FeedReceiver) : (s.setFeedRx r).notes = s.notes := rfl
@[simp] theorem State.setFeedRx_slots (r : FeedReceiver) : (s.setFeedRx r).slots = s.slots := rfl
@[simp] theorem State.setFeedRx_resetPending (r : FeedReceiver) : (s.setFeedRx r).resetPending = s.resetPending := rfl
@[simp] theorem State.setFeedRx_settings (r : FeedReceiver) : (s.setFeedRx r).settings = s.settings := rfl
@[simp] theorem State.setFeedRx_port (r : FeedReceiver) : (s.setFeedRx r).port = s.port := rfl
@[simp] theorem State.setFeedRx_events (r : FeedReceiver) : (s.setFeedRx r).events = s.events := rfl
@[simp] theorem State.setFeedRx_drainRx (r : FeedReceiver) : (s.setFeedRx r).drainRx = s.drainRx := rfl
@[simp] theorem State.setFeedRx_freeCount (r : FeedReceiver) : (s.setFeedRx r).freeCount = s.freeCount := rfl
@[simp] theorem State.setFeedRx_atTick (r : FeedReceiver) : (s.setFeedRx r).atTick = s.atTick := rfl
@[simp] theorem State.setFeedRx_pending (r : FeedReceiver) : (s.setFeedRx r).pending = s.pending := rfl
@[simp] theorem State.stream_setFeedRx (r : FeedReceiver) (t : Tag) : (s.setFeedRx r).stream t = s.stream t := rfl
@[simp] theorem State.mapped_setFeedRx (r : FeedReceiver) (d : DrainTag) : (s.setFeedRx r).mapped d = s.mapped d := rfl

@[simp] theorem State.setFeedTx_self (r : Option FeedFrame) : (s.setFeedTx r).feedTx = r := rfl
@[simp] theorem State.setFeedTx_phase (r : Option FeedFrame) : (s.setFeedTx r).phase = s.phase := rfl
@[simp] theorem State.setFeedTx_resetPin (r : Option FeedFrame) : (s.setFeedTx r).resetPin = s.resetPin := rfl
@[simp] theorem State.setFeedTx_carrierPin (r : Option FeedFrame) : (s.setFeedTx r).carrierPin = s.carrierPin := rfl
@[simp] theorem State.setFeedTx_profile (r : Option FeedFrame) : (s.setFeedTx r).profile = s.profile := rfl
@[simp] theorem State.setFeedTx_autoopen (r : Option FeedFrame) : (s.setFeedTx r).autoopen = s.autoopen := rfl
@[simp] theorem State.setFeedTx_streams (r : Option FeedFrame) : (s.setFeedTx r).streams = s.streams := rfl
@[simp] theorem State.setFeedTx_drainMap (r : Option FeedFrame) : (s.setFeedTx r).drainMap = s.drainMap := rfl
@[simp] theorem State.setFeedTx_cells (r : Option FeedFrame) : (s.setFeedTx r).cells = s.cells := rfl
@[simp] theorem State.setFeedTx_pool (r : Option FeedFrame) : (s.setFeedTx r).pool = s.pool := rfl
@[simp] theorem State.setFeedTx_sentPool (r : Option FeedFrame) : (s.setFeedTx r).sentPool = s.sentPool := rfl
@[simp] theorem State.setFeedTx_flowPosition (r : Option FeedFrame) : (s.setFeedTx r).flowPosition = s.flowPosition := rfl
@[simp] theorem State.setFeedTx_feedRx (r : Option FeedFrame) : (s.setFeedTx r).feedRx = s.feedRx := rfl
@[simp] theorem State.setFeedTx_drainTx (r : Option FeedFrame) : (s.setFeedTx r).drainTx = s.drainTx := rfl
@[simp] theorem State.setFeedTx_carrier (r : Option FeedFrame) : (s.setFeedTx r).carrier = s.carrier := rfl
@[simp] theorem State.setFeedTx_credits (r : Option FeedFrame) : (s.setFeedTx r).credits = s.credits := rfl
@[simp] theorem State.setFeedTx_positions (r : Option FeedFrame) : (s.setFeedTx r).positions = s.positions := rfl
@[simp] theorem State.setFeedTx_notes (r : Option FeedFrame) : (s.setFeedTx r).notes = s.notes := rfl
@[simp] theorem State.setFeedTx_slots (r : Option FeedFrame) : (s.setFeedTx r).slots = s.slots := rfl
@[simp] theorem State.setFeedTx_resetPending (r : Option FeedFrame) : (s.setFeedTx r).resetPending = s.resetPending := rfl
@[simp] theorem State.setFeedTx_settings (r : Option FeedFrame) : (s.setFeedTx r).settings = s.settings := rfl
@[simp] theorem State.setFeedTx_port (r : Option FeedFrame) : (s.setFeedTx r).port = s.port := rfl
@[simp] theorem State.setFeedTx_events (r : Option FeedFrame) : (s.setFeedTx r).events = s.events := rfl
@[simp] theorem State.setFeedTx_drainRx (r : Option FeedFrame) : (s.setFeedTx r).drainRx = s.drainRx := rfl
@[simp] theorem State.setFeedTx_freeCount (r : Option FeedFrame) : (s.setFeedTx r).freeCount = s.freeCount := rfl
@[simp] theorem State.setFeedTx_atTick (r : Option FeedFrame) : (s.setFeedTx r).atTick = s.atTick := rfl
@[simp] theorem State.setFeedTx_pending (r : Option FeedFrame) : (s.setFeedTx r).pending = s.pending := rfl
@[simp] theorem State.stream_setFeedTx (r : Option FeedFrame) (t : Tag) : (s.setFeedTx r).stream t = s.stream t := rfl
@[simp] theorem State.mapped_setFeedTx (r : Option FeedFrame) (d : DrainTag) : (s.setFeedTx r).mapped d = s.mapped d := rfl

@[simp] theorem State.setDrainRx_self (r : DrainReceiver) : (s.setDrainRx r).drainRx = r := rfl
@[simp] theorem State.setDrainRx_feedTx (r : DrainReceiver) : (s.setDrainRx r).feedTx = s.feedTx := rfl
@[simp] theorem State.setDrainRx_phase (r : DrainReceiver) : (s.setDrainRx r).phase = s.phase := rfl
@[simp] theorem State.setDrainRx_resetPin (r : DrainReceiver) : (s.setDrainRx r).resetPin = s.resetPin := rfl
@[simp] theorem State.setDrainRx_carrierPin (r : DrainReceiver) : (s.setDrainRx r).carrierPin = s.carrierPin := rfl
@[simp] theorem State.setDrainRx_profile (r : DrainReceiver) : (s.setDrainRx r).profile = s.profile := rfl
@[simp] theorem State.setDrainRx_autoopen (r : DrainReceiver) : (s.setDrainRx r).autoopen = s.autoopen := rfl
@[simp] theorem State.setDrainRx_streams (r : DrainReceiver) : (s.setDrainRx r).streams = s.streams := rfl
@[simp] theorem State.setDrainRx_drainMap (r : DrainReceiver) : (s.setDrainRx r).drainMap = s.drainMap := rfl
@[simp] theorem State.setDrainRx_cells (r : DrainReceiver) : (s.setDrainRx r).cells = s.cells := rfl
@[simp] theorem State.setDrainRx_pool (r : DrainReceiver) : (s.setDrainRx r).pool = s.pool := rfl
@[simp] theorem State.setDrainRx_sentPool (r : DrainReceiver) : (s.setDrainRx r).sentPool = s.sentPool := rfl
@[simp] theorem State.setDrainRx_flowPosition (r : DrainReceiver) : (s.setDrainRx r).flowPosition = s.flowPosition := rfl
@[simp] theorem State.setDrainRx_feedRx (r : DrainReceiver) : (s.setDrainRx r).feedRx = s.feedRx := rfl
@[simp] theorem State.setDrainRx_drainTx (r : DrainReceiver) : (s.setDrainRx r).drainTx = s.drainTx := rfl
@[simp] theorem State.setDrainRx_carrier (r : DrainReceiver) : (s.setDrainRx r).carrier = s.carrier := rfl
@[simp] theorem State.setDrainRx_credits (r : DrainReceiver) : (s.setDrainRx r).credits = s.credits := rfl
@[simp] theorem State.setDrainRx_positions (r : DrainReceiver) : (s.setDrainRx r).positions = s.positions := rfl
@[simp] theorem State.setDrainRx_notes (r : DrainReceiver) : (s.setDrainRx r).notes = s.notes := rfl
@[simp] theorem State.setDrainRx_slots (r : DrainReceiver) : (s.setDrainRx r).slots = s.slots := rfl
@[simp] theorem State.setDrainRx_resetPending (r : DrainReceiver) : (s.setDrainRx r).resetPending = s.resetPending := rfl
@[simp] theorem State.setDrainRx_settings (r : DrainReceiver) : (s.setDrainRx r).settings = s.settings := rfl
@[simp] theorem State.setDrainRx_port (r : DrainReceiver) : (s.setDrainRx r).port = s.port := rfl
@[simp] theorem State.setDrainRx_events (r : DrainReceiver) : (s.setDrainRx r).events = s.events := rfl
@[simp] theorem State.setDrainRx_freeCount (r : DrainReceiver) : (s.setDrainRx r).freeCount = s.freeCount := rfl
@[simp] theorem State.setDrainRx_atTick (r : DrainReceiver) : (s.setDrainRx r).atTick = s.atTick := rfl
@[simp] theorem State.setDrainRx_pending (r : DrainReceiver) : (s.setDrainRx r).pending = s.pending := rfl
@[simp] theorem State.stream_setDrainRx (r : DrainReceiver) (t : Tag) : (s.setDrainRx r).stream t = s.stream t := rfl
@[simp] theorem State.mapped_setDrainRx (r : DrainReceiver) (d : DrainTag) : (s.setDrainRx r).mapped d = s.mapped d := rfl

@[simp] theorem State.setAtTick_self (b : Bool) : (s.setAtTick b).atTick = b := rfl
@[simp] theorem State.setAtTick_phase (b : Bool) : (s.setAtTick b).phase = s.phase := rfl
@[simp] theorem State.setAtTick_resetPin (b : Bool) : (s.setAtTick b).resetPin = s.resetPin := rfl
@[simp] theorem State.setAtTick_carrierPin (b : Bool) : (s.setAtTick b).carrierPin = s.carrierPin := rfl
@[simp] theorem State.setAtTick_profile (b : Bool) : (s.setAtTick b).profile = s.profile := rfl
@[simp] theorem State.setAtTick_autoopen (b : Bool) : (s.setAtTick b).autoopen = s.autoopen := rfl
@[simp] theorem State.setAtTick_streams (b : Bool) : (s.setAtTick b).streams = s.streams := rfl
@[simp] theorem State.setAtTick_drainMap (b : Bool) : (s.setAtTick b).drainMap = s.drainMap := rfl
@[simp] theorem State.setAtTick_cells (b : Bool) : (s.setAtTick b).cells = s.cells := rfl
@[simp] theorem State.setAtTick_pool (b : Bool) : (s.setAtTick b).pool = s.pool := rfl
@[simp] theorem State.setAtTick_sentPool (b : Bool) : (s.setAtTick b).sentPool = s.sentPool := rfl
@[simp] theorem State.setAtTick_flowPosition (b : Bool) : (s.setAtTick b).flowPosition = s.flowPosition := rfl
@[simp] theorem State.setAtTick_feedRx (b : Bool) : (s.setAtTick b).feedRx = s.feedRx := rfl
@[simp] theorem State.setAtTick_feedTx (b : Bool) : (s.setAtTick b).feedTx = s.feedTx := rfl
@[simp] theorem State.setAtTick_drainTx (b : Bool) : (s.setAtTick b).drainTx = s.drainTx := rfl
@[simp] theorem State.setAtTick_carrier (b : Bool) : (s.setAtTick b).carrier = s.carrier := rfl
@[simp] theorem State.setAtTick_credits (b : Bool) : (s.setAtTick b).credits = s.credits := rfl
@[simp] theorem State.setAtTick_positions (b : Bool) : (s.setAtTick b).positions = s.positions := rfl
@[simp] theorem State.setAtTick_notes (b : Bool) : (s.setAtTick b).notes = s.notes := rfl
@[simp] theorem State.setAtTick_slots (b : Bool) : (s.setAtTick b).slots = s.slots := rfl
@[simp] theorem State.setAtTick_resetPending (b : Bool) : (s.setAtTick b).resetPending = s.resetPending := rfl
@[simp] theorem State.setAtTick_settings (b : Bool) : (s.setAtTick b).settings = s.settings := rfl
@[simp] theorem State.setAtTick_port (b : Bool) : (s.setAtTick b).port = s.port := rfl
@[simp] theorem State.setAtTick_events (b : Bool) : (s.setAtTick b).events = s.events := rfl
@[simp] theorem State.setAtTick_drainRx (b : Bool) : (s.setAtTick b).drainRx = s.drainRx := rfl
@[simp] theorem State.setAtTick_freeCount (b : Bool) : (s.setAtTick b).freeCount = s.freeCount := rfl
@[simp] theorem State.setAtTick_pending (b : Bool) : (s.setAtTick b).pending = s.pending := rfl
@[simp] theorem State.stream_setAtTick (b : Bool) (t : Tag) : (s.setAtTick b).stream t = s.stream t := rfl
@[simp] theorem State.mapped_setAtTick (b : Bool) (d : DrainTag) : (s.setAtTick b).mapped d = s.mapped d := rfl

/-! ### Stream counters -/

theorem State.stream_countStream (t u : Tag) (f : StreamCounters → StreamCounters) :
    (s.countStream t f).stream u =
      if u = t then { s.stream t with counters := f (s.stream t).counters } else s.stream u :=
  s.stream_updateStream t u _
@[simp] theorem State.stream_countStream_self (t : Tag) (f : StreamCounters → StreamCounters) :
    (s.countStream t f).stream t = { s.stream t with counters := f (s.stream t).counters } := by
  simp [State.countStream]
theorem State.stream_countStream_ne {t u : Tag} (f : StreamCounters → StreamCounters) (h : u ≠ t) :
    (s.countStream t f).stream u = s.stream u := s.stream_updateStream_ne _ h
@[simp] theorem State.mapped_countStream (t : Tag) (f : StreamCounters → StreamCounters) (d : DrainTag) :
    (s.countStream t f).mapped d = s.mapped d := by simp [State.countStream]
@[simp] theorem State.countStream_phase (t : Tag) (f : StreamCounters → StreamCounters) :
    (s.countStream t f).phase = s.phase := by simp [State.countStream]
@[simp] theorem State.countStream_resetPin (t : Tag) (f : StreamCounters → StreamCounters) :
    (s.countStream t f).resetPin = s.resetPin := by simp [State.countStream]
@[simp] theorem State.countStream_carrierPin (t : Tag) (f : StreamCounters → StreamCounters) :
    (s.countStream t f).carrierPin = s.carrierPin := by simp [State.countStream]
@[simp] theorem State.countStream_profile (t : Tag) (f : StreamCounters → StreamCounters) :
    (s.countStream t f).profile = s.profile := by simp [State.countStream]
@[simp] theorem State.countStream_autoopen (t : Tag) (f : StreamCounters → StreamCounters) :
    (s.countStream t f).autoopen = s.autoopen := by simp [State.countStream]
@[simp] theorem State.countStream_drainMap (t : Tag) (f : StreamCounters → StreamCounters) :
    (s.countStream t f).drainMap = s.drainMap := by simp [State.countStream]
@[simp] theorem State.countStream_cells (t : Tag) (f : StreamCounters → StreamCounters) :
    (s.countStream t f).cells = s.cells := by simp [State.countStream]
@[simp] theorem State.countStream_pool (t : Tag) (f : StreamCounters → StreamCounters) :
    (s.countStream t f).pool = s.pool := by simp [State.countStream]
@[simp] theorem State.countStream_sentPool (t : Tag) (f : StreamCounters → StreamCounters) :
    (s.countStream t f).sentPool = s.sentPool := by simp [State.countStream]
@[simp] theorem State.countStream_flowPosition (t : Tag) (f : StreamCounters → StreamCounters) :
    (s.countStream t f).flowPosition = s.flowPosition := by simp [State.countStream]
@[simp] theorem State.countStream_feedRx (t : Tag) (f : StreamCounters → StreamCounters) :
    (s.countStream t f).feedRx = s.feedRx := by simp [State.countStream]
@[simp] theorem State.countStream_feedTx (t : Tag) (f : StreamCounters → StreamCounters) :
    (s.countStream t f).feedTx = s.feedTx := by simp [State.countStream]
@[simp] theorem State.countStream_drainTx (t : Tag) (f : StreamCounters → StreamCounters) :
    (s.countStream t f).drainTx = s.drainTx := by simp [State.countStream]
@[simp] theorem State.countStream_carrier (t : Tag) (f : StreamCounters → StreamCounters) :
    (s.countStream t f).carrier = s.carrier := by simp [State.countStream]
@[simp] theorem State.countStream_credits (t : Tag) (f : StreamCounters → StreamCounters) :
    (s.countStream t f).credits = s.credits := by simp [State.countStream]
@[simp] theorem State.countStream_positions (t : Tag) (f : StreamCounters → StreamCounters) :
    (s.countStream t f).positions = s.positions := by simp [State.countStream]
@[simp] theorem State.countStream_notes (t : Tag) (f : StreamCounters → StreamCounters) :
    (s.countStream t f).notes = s.notes := by simp [State.countStream]
@[simp] theorem State.countStream_slots (t : Tag) (f : StreamCounters → StreamCounters) :
    (s.countStream t f).slots = s.slots := by simp [State.countStream]
@[simp] theorem State.countStream_resetPending (t : Tag) (f : StreamCounters → StreamCounters) :
    (s.countStream t f).resetPending = s.resetPending := by simp [State.countStream]
@[simp] theorem State.countStream_settings (t : Tag) (f : StreamCounters → StreamCounters) :
    (s.countStream t f).settings = s.settings := by simp [State.countStream]
@[simp] theorem State.countStream_port (t : Tag) (f : StreamCounters → StreamCounters) :
    (s.countStream t f).port = s.port := by simp [State.countStream]
@[simp] theorem State.countStream_events (t : Tag) (f : StreamCounters → StreamCounters) :
    (s.countStream t f).events = s.events := by simp [State.countStream]
@[simp] theorem State.countStream_drainRx (t : Tag) (f : StreamCounters → StreamCounters) :
    (s.countStream t f).drainRx = s.drainRx := by simp [State.countStream]
@[simp] theorem State.countStream_freeCount (t : Tag) (f : StreamCounters → StreamCounters) :
    (s.countStream t f).freeCount = s.freeCount := by simp [State.countStream]
@[simp] theorem State.countStream_atTick (t : Tag) (f : StreamCounters → StreamCounters) :
    (s.countStream t f).atTick = s.atTick := by simp [State.countStream]
@[simp] theorem State.countStream_pending (t : Tag) (f : StreamCounters → StreamCounters) :
    (s.countStream t f).pending = s.pending := by simp [State.countStream]

/-! ### Payload bytes stored (R50) -/

variable (r : FrameRecord) (payload : List Byte)

@[simp] theorem State.storeBytes_self : (s.storeBytes r payload).cells = s.cells.writeChain r.chain payload := rfl
@[simp] theorem State.storeBytes_phase : (s.storeBytes r payload).phase = s.phase := rfl
@[simp] theorem State.storeBytes_resetPin : (s.storeBytes r payload).resetPin = s.resetPin := rfl
@[simp] theorem State.storeBytes_carrierPin : (s.storeBytes r payload).carrierPin = s.carrierPin := rfl
@[simp] theorem State.storeBytes_profile : (s.storeBytes r payload).profile = s.profile := rfl
@[simp] theorem State.storeBytes_autoopen : (s.storeBytes r payload).autoopen = s.autoopen := rfl
@[simp] theorem State.storeBytes_streams : (s.storeBytes r payload).streams = s.streams := rfl
@[simp] theorem State.storeBytes_drainMap : (s.storeBytes r payload).drainMap = s.drainMap := rfl
@[simp] theorem State.storeBytes_pool : (s.storeBytes r payload).pool = s.pool := rfl
@[simp] theorem State.storeBytes_sentPool : (s.storeBytes r payload).sentPool = s.sentPool := rfl
@[simp] theorem State.storeBytes_flowPosition : (s.storeBytes r payload).flowPosition = s.flowPosition := rfl
@[simp] theorem State.storeBytes_feedRx : (s.storeBytes r payload).feedRx = s.feedRx := rfl
@[simp] theorem State.storeBytes_feedTx : (s.storeBytes r payload).feedTx = s.feedTx := rfl
@[simp] theorem State.storeBytes_drainTx : (s.storeBytes r payload).drainTx = s.drainTx := rfl
@[simp] theorem State.storeBytes_carrier : (s.storeBytes r payload).carrier = s.carrier := rfl
@[simp] theorem State.storeBytes_credits : (s.storeBytes r payload).credits = s.credits := rfl
@[simp] theorem State.storeBytes_positions : (s.storeBytes r payload).positions = s.positions := rfl
@[simp] theorem State.storeBytes_notes : (s.storeBytes r payload).notes = s.notes := rfl
@[simp] theorem State.storeBytes_slots : (s.storeBytes r payload).slots = s.slots := rfl
@[simp] theorem State.storeBytes_resetPending : (s.storeBytes r payload).resetPending = s.resetPending := rfl
@[simp] theorem State.storeBytes_settings : (s.storeBytes r payload).settings = s.settings := rfl
@[simp] theorem State.storeBytes_port : (s.storeBytes r payload).port = s.port := rfl
@[simp] theorem State.storeBytes_events : (s.storeBytes r payload).events = s.events := rfl
@[simp] theorem State.storeBytes_pending : (s.storeBytes r payload).pending = s.pending := rfl
@[simp] theorem State.storeBytes_drainRx : (s.storeBytes r payload).drainRx = s.drainRx := rfl
@[simp] theorem State.storeBytes_freeCount : (s.storeBytes r payload).freeCount = s.freeCount := rfl
@[simp] theorem State.storeBytes_atTick : (s.storeBytes r payload).atTick = s.atTick := rfl
@[simp] theorem State.stream_storeBytes (t : Tag) : (s.storeBytes r payload).stream t = s.stream t := rfl
@[simp] theorem State.mapped_storeBytes (d : DrainTag) : (s.storeBytes r payload).mapped d = s.mapped d := rfl

/-! ### All streams -/

/-- The stream table as the list of its records in ascending order of tag. -/
theorem State.streams_toList : s.streams.toList = allTags.map s.stream := by
  apply List.ext_getElem
  · simp [allTags]
  · intro i h1 h2
    simp [allTags, State.stream]

theorem State.mem_streams {x : Stream} : x ∈ s.streams.toList ↔ ∃ t, s.stream t = x := by
  rw [State.streams_toList]; simp [allTags]

end Sys2Proof.Machine
end

