-- ==== Sys2Proof/Laws/Ops.lean ====
section
/-!
SUPPORT. For each shared operation of Ops.lean what it can do: the fields it leaves as they were, and what it writes.
-/

namespace Sys2Proof.Machine

variable (s : State)


/-! ### Pool state (R36, R38) -/

/-- The pool's evaluation: the pool state by R36's table, and the event of a change (R38). -/
theorem State.evaluatePool_eq :
    s.evaluatePool =
      let after := s.pool.level.evaluate s.pool.freeCells.length s.settings.reserve s.settings.hysteresis
      { s with
        pool := { s.pool with level := after }
        events := if after = s.pool.level then s.events else s.settings.record s.events
          { kind := if after = .low then .poolLow else .poolNormal, detail := BitVec.ofNat 16 s.pool.freeCells.length } } := by
  unfold State.evaluatePool
  dsimp only
  split
  · next h => rw [h]
  · next h =>
    rw [State.raise_eq]
    generalize s.pool.level.evaluate s.pool.freeCells.length s.settings.reserve s.settings.hysteresis = a
    cases a <;> rfl

@[simp] theorem State.evaluatePool_freeCells : s.evaluatePool.pool.freeCells = s.pool.freeCells := by
  rw [State.evaluatePool_eq]
@[simp] theorem State.evaluatePool_freeRecords : s.evaluatePool.pool.freeRecords = s.pool.freeRecords := by
  rw [State.evaluatePool_eq]
@[simp] theorem State.evaluatePoolFrom_freeCells (n : Nat) : (s.evaluatePoolFrom n).pool.freeCells = s.pool.freeCells := by
  unfold State.evaluatePoolFrom; split <;> simp
@[simp] theorem State.evaluatePoolFrom_freeRecords (n : Nat) :
    (s.evaluatePoolFrom n).pool.freeRecords = s.pool.freeRecords := by
  unfold State.evaluatePoolFrom; split <;> simp

@[simp] theorem State.evaluatePool_phase : (s.evaluatePool).phase = s.phase := by rw [State.evaluatePool_eq]
@[simp] theorem State.evaluatePool_resetPin : (s.evaluatePool).resetPin = s.resetPin := by rw [State.evaluatePool_eq]
@[simp] theorem State.evaluatePool_carrierPin : (s.evaluatePool).carrierPin = s.carrierPin := by
  rw [State.evaluatePool_eq]
@[simp] theorem State.evaluatePool_profile : (s.evaluatePool).profile = s.profile := by rw [State.evaluatePool_eq]
@[simp] theorem State.evaluatePool_autoopen : (s.evaluatePool).autoopen = s.autoopen := by rw [State.evaluatePool_eq]
@[simp] theorem State.evaluatePool_streams : (s.evaluatePool).streams = s.streams := by rw [State.evaluatePool_eq]
@[simp] theorem State.evaluatePool_drainMap : (s.evaluatePool).drainMap = s.drainMap := by rw [State.evaluatePool_eq]
@[simp] theorem State.evaluatePool_cells : (s.evaluatePool).cells = s.cells := by rw [State.evaluatePool_eq]
@[simp] theorem State.evaluatePool_sentPool : (s.evaluatePool).sentPool = s.sentPool := by rw [State.evaluatePool_eq]
@[simp] theorem State.evaluatePool_flowPosition : (s.evaluatePool).flowPosition = s.flowPosition := by
  rw [State.evaluatePool_eq]
@[simp] theorem State.evaluatePool_feedRx : (s.evaluatePool).feedRx = s.feedRx := by rw [State.evaluatePool_eq]
@[simp] theorem State.evaluatePool_feedTx : (s.evaluatePool).feedTx = s.feedTx := by rw [State.evaluatePool_eq]
@[simp] theorem State.evaluatePool_drainTx : (s.evaluatePool).drainTx = s.drainTx := by rw [State.evaluatePool_eq]
@[simp] theorem State.evaluatePool_carrier : (s.evaluatePool).carrier = s.carrier := by rw [State.evaluatePool_eq]
@[simp] theorem State.evaluatePool_credits : (s.evaluatePool).credits = s.credits := by rw [State.evaluatePool_eq]
@[simp] theorem State.evaluatePool_positions : (s.evaluatePool).positions = s.positions := by
  rw [State.evaluatePool_eq]
@[simp] theorem State.evaluatePool_notes : (s.evaluatePool).notes = s.notes := by rw [State.evaluatePool_eq]
@[simp] theorem State.evaluatePool_slots : (s.evaluatePool).slots = s.slots := by rw [State.evaluatePool_eq]
@[simp] theorem State.evaluatePool_resetPending : (s.evaluatePool).resetPending = s.resetPending := by
  rw [State.evaluatePool_eq]
@[simp] theorem State.evaluatePool_settings : (s.evaluatePool).settings = s.settings := by rw [State.evaluatePool_eq]
@[simp] theorem State.evaluatePool_port : (s.evaluatePool).port = s.port := by rw [State.evaluatePool_eq]
@[simp] theorem State.evaluatePool_drainRx : (s.evaluatePool).drainRx = s.drainRx := by
  rw [State.evaluatePool_eq]
@[simp] theorem State.evaluatePool_freeCount : (s.evaluatePool).freeCount = s.freeCount := by
  rw [State.evaluatePool_eq]
@[simp] theorem State.evaluatePool_atTick : (s.evaluatePool).atTick = s.atTick := by
  rw [State.evaluatePool_eq]
@[simp] theorem State.evaluatePool_pending : (s.evaluatePool).pending = s.pending := by rw [State.evaluatePool_eq]

@[simp] theorem State.evaluatePoolFrom_phase (n : Nat) : (s.evaluatePoolFrom n).phase = s.phase := by
  unfold State.evaluatePoolFrom; split <;> simp
@[simp] theorem State.evaluatePoolFrom_resetPin (n : Nat) : (s.evaluatePoolFrom n).resetPin = s.resetPin := by
  unfold State.evaluatePoolFrom; split <;> simp
@[simp] theorem State.evaluatePoolFrom_carrierPin (n : Nat) : (s.evaluatePoolFrom n).carrierPin = s.carrierPin := by
  unfold State.evaluatePoolFrom; split <;> simp
@[simp] theorem State.evaluatePoolFrom_profile (n : Nat) : (s.evaluatePoolFrom n).profile = s.profile := by
  unfold State.evaluatePoolFrom; split <;> simp
@[simp] theorem State.evaluatePoolFrom_autoopen (n : Nat) : (s.evaluatePoolFrom n).autoopen = s.autoopen := by
  unfold State.evaluatePoolFrom; split <;> simp
@[simp] theorem State.evaluatePoolFrom_streams (n : Nat) : (s.evaluatePoolFrom n).streams = s.streams := by
  unfold State.evaluatePoolFrom; split <;> simp
@[simp] theorem State.evaluatePoolFrom_drainMap (n : Nat) : (s.evaluatePoolFrom n).drainMap = s.drainMap := by
  unfold State.evaluatePoolFrom; split <;> simp
@[simp] theorem State.evaluatePoolFrom_cells (n : Nat) : (s.evaluatePoolFrom n).cells = s.cells := by
  unfold State.evaluatePoolFrom; split <;> simp
@[simp] theorem State.evaluatePoolFrom_sentPool (n : Nat) : (s.evaluatePoolFrom n).sentPool = s.sentPool := by
  unfold State.evaluatePoolFrom; split <;> simp
@[simp] theorem State.evaluatePoolFrom_flowPosition (n : Nat) : (s.evaluatePoolFrom n).flowPosition = s.flowPosition := by
  unfold State.evaluatePoolFrom; split <;> simp
@[simp] theorem State.evaluatePoolFrom_feedRx (n : Nat) : (s.evaluatePoolFrom n).feedRx = s.feedRx := by
  unfold State.evaluatePoolFrom; split <;> simp
@[simp] theorem State.evaluatePoolFrom_feedTx (n : Nat) : (s.evaluatePoolFrom n).feedTx = s.feedTx := by
  unfold State.evaluatePoolFrom; split <;> simp
@[simp] theorem State.evaluatePoolFrom_drainTx (n : Nat) : (s.evaluatePoolFrom n).drainTx = s.drainTx := by
  unfold State.evaluatePoolFrom; split <;> simp
@[simp] theorem State.evaluatePoolFrom_carrier (n : Nat) : (s.evaluatePoolFrom n).carrier = s.carrier := by
  unfold State.evaluatePoolFrom; split <;> simp
@[simp] theorem State.evaluatePoolFrom_credits (n : Nat) : (s.evaluatePoolFrom n).credits = s.credits := by
  unfold State.evaluatePoolFrom; split <;> simp
@[simp] theorem State.evaluatePoolFrom_positions (n : Nat) : (s.evaluatePoolFrom n).positions = s.positions := by
  unfold State.evaluatePoolFrom; split <;> simp
@[simp] theorem State.evaluatePoolFrom_notes (n : Nat) : (s.evaluatePoolFrom n).notes = s.notes := by
  unfold State.evaluatePoolFrom; split <;> simp
@[simp] theorem State.evaluatePoolFrom_slots (n : Nat) : (s.evaluatePoolFrom n).slots = s.slots := by
  unfold State.evaluatePoolFrom; split <;> simp
@[simp] theorem State.evaluatePoolFrom_resetPending (n : Nat) : (s.evaluatePoolFrom n).resetPending = s.resetPending := by
  unfold State.evaluatePoolFrom; split <;> simp
@[simp] theorem State.evaluatePoolFrom_settings (n : Nat) : (s.evaluatePoolFrom n).settings = s.settings := by
  unfold State.evaluatePoolFrom; split <;> simp
@[simp] theorem State.evaluatePoolFrom_port (n : Nat) : (s.evaluatePoolFrom n).port = s.port := by
  unfold State.evaluatePoolFrom; split <;> simp
@[simp] theorem State.evaluatePoolFrom_drainRx (n : Nat) : (s.evaluatePoolFrom n).drainRx = s.drainRx := by
  unfold State.evaluatePoolFrom; split <;> simp
@[simp] theorem State.evaluatePoolFrom_freeCount (n : Nat) : (s.evaluatePoolFrom n).freeCount = s.freeCount := by
  unfold State.evaluatePoolFrom; split <;> simp
@[simp] theorem State.evaluatePoolFrom_atTick (n : Nat) : (s.evaluatePoolFrom n).atTick = s.atTick := by
  unfold State.evaluatePoolFrom; split <;> simp
@[simp] theorem State.evaluatePoolFrom_pending (n : Nat) : (s.evaluatePoolFrom n).pending = s.pending := by
  unfold State.evaluatePoolFrom; split <;> simp

@[simp] theorem State.stream_evaluatePool (t : Tag) : s.evaluatePool.stream t = s.stream t := by
  simp only [State.stream, State.evaluatePool_streams]
@[simp] theorem State.stream_evaluatePoolFrom (n : Nat) (t : Tag) : (s.evaluatePoolFrom n).stream t = s.stream t := by
  simp only [State.stream, State.evaluatePoolFrom_streams]
@[simp] theorem State.mapped_evaluatePoolFrom (n : Nat) (d : DrainTag) :
    (s.evaluatePoolFrom n).mapped d = s.mapped d := by simp only [State.mapped, State.evaluatePoolFrom_drainMap]

/-- `PoolFollows` in the words of the machine. -/
theorem poolFollows_iff {s t : State} {b : EventBlock} : PoolFollows s t b ↔
    (let free := t.pool.freeCells.length
     let after := s.pool.level.evaluate free s.settings.reserve s.settings.hysteresis
     if free = s.pool.freeCells.length ∨ after = s.pool.level then t.pool.level = s.pool.level ∧ t.events = b
     else t.pool.level = after ∧ t.events = s.settings.record b
        { kind := if after = .low then .poolLow else .poolNormal, detail := BitVec.ofNat 16 free }) := by
  unfold PoolFollows
  cases hl : s.pool.level <;> simp only [PoolLevel.evaluate] <;> rfl

/-- The flow state that a step leaves, in the words of the machine. -/
theorem Stream.flowAt_eq (x : Stream) (occupancy : Nat) :
    x.flowAt occupancy = if occupancy = x.occupancy then x.flow
      else x.flow.evaluate occupancy x.config.highWatermark x.config.lowWatermark := rfl

/-- What the pool's evaluation at the end of a step gives, in the statements' words: m is the state before it, s the state at the
start of the step. -/
theorem poolFollows_evaluatePoolFrom {s m : State} (hs : m.settings = s.settings) (hl : m.pool.level = s.pool.level) :
    PoolFollows s (m.evaluatePoolFrom s.pool.freeCells.length) m.events := by
  rw [poolFollows_iff]; unfold State.evaluatePoolFrom
  by_cases h : m.pool.freeCells.length = s.pool.freeCells.length
  · simp [h, hl]
  · simp only [h, if_false, State.evaluatePool_freeCells, false_or]
    rw [State.evaluatePool_eq]
    simp only [hs, hl]
    split
    · next e => simp [e]
    · next e => simp


/-- `PoolFollows` looks at pool and events alone. -/
theorem PoolFollows.congr {s t u : State} {b : EventBlock} (hp : u.pool = t.pool) (he : u.events = t.events)
    (h : PoolFollows s t b) : PoolFollows s u b := by
  unfold PoolFollows at *; rw [hp, he]; exact h


/-! ### Flow states (R126, R127) -/

@[simp] theorem State.evaluateFlow_phase (t : Tag) : (s.evaluateFlow t).phase = s.phase := by
  simp [State.evaluateFlow]
@[simp] theorem State.evaluateFlow_resetPin (t : Tag) : (s.evaluateFlow t).resetPin = s.resetPin := by
  simp [State.evaluateFlow]
@[simp] theorem State.evaluateFlow_carrierPin (t : Tag) : (s.evaluateFlow t).carrierPin = s.carrierPin := by
  simp [State.evaluateFlow]
@[simp] theorem State.evaluateFlow_profile (t : Tag) : (s.evaluateFlow t).profile = s.profile := by
  simp [State.evaluateFlow]
@[simp] theorem State.evaluateFlow_autoopen (t : Tag) : (s.evaluateFlow t).autoopen = s.autoopen := by
  simp [State.evaluateFlow]
@[simp] theorem State.evaluateFlow_drainMap (t : Tag) : (s.evaluateFlow t).drainMap = s.drainMap := by
  simp [State.evaluateFlow]
@[simp] theorem State.evaluateFlow_cells (t : Tag) : (s.evaluateFlow t).cells = s.cells := by
  simp [State.evaluateFlow]
@[simp] theorem State.evaluateFlow_pool (t : Tag) : (s.evaluateFlow t).pool = s.pool := by simp [State.evaluateFlow]
@[simp] theorem State.evaluateFlow_sentPool (t : Tag) : (s.evaluateFlow t).sentPool = s.sentPool := by
  simp [State.evaluateFlow]
@[simp] theorem State.evaluateFlow_flowPosition (t : Tag) : (s.evaluateFlow t).flowPosition = s.flowPosition := by
  simp [State.evaluateFlow]
@[simp] theorem State.evaluateFlow_feedRx (t : Tag) : (s.evaluateFlow t).feedRx = s.feedRx := by
  simp [State.evaluateFlow]
@[simp] theorem State.evaluateFlow_feedTx (t : Tag) : (s.evaluateFlow t).feedTx = s.feedTx := by
  simp [State.evaluateFlow]
@[simp] theorem State.evaluateFlow_drainTx (t : Tag) : (s.evaluateFlow t).drainTx = s.drainTx := by
  simp [State.evaluateFlow]
@[simp] theorem State.evaluateFlow_carrier (t : Tag) : (s.evaluateFlow t).carrier = s.carrier := by
  simp [State.evaluateFlow]
@[simp] theorem State.evaluateFlow_credits (t : Tag) : (s.evaluateFlow t).credits = s.credits := by
  simp [State.evaluateFlow]
@[simp] theorem State.evaluateFlow_positions (t : Tag) : (s.evaluateFlow t).positions = s.positions := by
  simp [State.evaluateFlow]
@[simp] theorem State.evaluateFlow_notes (t : Tag) : (s.evaluateFlow t).notes = s.notes := by
  simp [State.evaluateFlow]
@[simp] theorem State.evaluateFlow_slots (t : Tag) : (s.evaluateFlow t).slots = s.slots := by
  simp [State.evaluateFlow]
@[simp] theorem State.evaluateFlow_resetPending (t : Tag) : (s.evaluateFlow t).resetPending = s.resetPending := by
  simp [State.evaluateFlow]
@[simp] theorem State.evaluateFlow_settings (t : Tag) : (s.evaluateFlow t).settings = s.settings := by
  simp [State.evaluateFlow]
@[simp] theorem State.evaluateFlow_port (t : Tag) : (s.evaluateFlow t).port = s.port := by simp [State.evaluateFlow]
@[simp] theorem State.evaluateFlow_events (t : Tag) : (s.evaluateFlow t).events = s.events := by
  simp [State.evaluateFlow]
@[simp] theorem State.evaluateFlow_drainRx (t : Tag) : (s.evaluateFlow t).drainRx = s.drainRx := by
  simp [State.evaluateFlow]
@[simp] theorem State.evaluateFlow_freeCount (t : Tag) : (s.evaluateFlow t).freeCount = s.freeCount := by
  simp [State.evaluateFlow]
@[simp] theorem State.evaluateFlow_atTick (t : Tag) : (s.evaluateFlow t).atTick = s.atTick := by
  simp [State.evaluateFlow]
@[simp] theorem State.evaluateFlow_pending (t : Tag) : (s.evaluateFlow t).pending = s.pending := by
  simp [State.evaluateFlow]

@[simp] theorem State.evaluateFlowFrom_phase (t : Tag) (n : Nat) : (s.evaluateFlowFrom t n).phase = s.phase := by
  unfold State.evaluateFlowFrom; split <;> simp
@[simp] theorem State.evaluateFlowFrom_resetPin (t : Tag) (n : Nat) : (s.evaluateFlowFrom t n).resetPin = s.resetPin := by
  unfold State.evaluateFlowFrom; split <;> simp
@[simp] theorem State.evaluateFlowFrom_carrierPin (t : Tag) (n : Nat) : (s.evaluateFlowFrom t n).carrierPin = s.carrierPin := by
  unfold State.evaluateFlowFrom; split <;> simp
@[simp] theorem State.evaluateFlowFrom_profile (t : Tag) (n : Nat) : (s.evaluateFlowFrom t n).profile = s.profile := by
  unfold State.evaluateFlowFrom; split <;> simp
@[simp] theorem State.evaluateFlowFrom_autoopen (t : Tag) (n : Nat) : (s.evaluateFlowFrom t n).autoopen = s.autoopen := by
  unfold State.evaluateFlowFrom; split <;> simp
@[simp] theorem State.evaluateFlowFrom_drainMap (t : Tag) (n : Nat) : (s.evaluateFlowFrom t n).drainMap = s.drainMap := by
  unfold State.evaluateFlowFrom; split <;> simp
@[simp] theorem State.evaluateFlowFrom_cells (t : Tag) (n : Nat) : (s.evaluateFlowFrom t n).cells = s.cells := by
  unfold State.evaluateFlowFrom; split <;> simp
@[simp] theorem State.evaluateFlowFrom_pool (t : Tag) (n : Nat) : (s.evaluateFlowFrom t n).pool = s.pool := by
  unfold State.evaluateFlowFrom; split <;> simp
@[simp] theorem State.evaluateFlowFrom_sentPool (t : Tag) (n : Nat) : (s.evaluateFlowFrom t n).sentPool = s.sentPool := by
  unfold State.evaluateFlowFrom; split <;> simp
@[simp] theorem State.evaluateFlowFrom_flowPosition (t : Tag) (n : Nat) : (s.evaluateFlowFrom t n).flowPosition = s.flowPosition := by
  unfold State.evaluateFlowFrom; split <;> simp
@[simp] theorem State.evaluateFlowFrom_feedRx (t : Tag) (n : Nat) : (s.evaluateFlowFrom t n).feedRx = s.feedRx := by
  unfold State.evaluateFlowFrom; split <;> simp
@[simp] theorem State.evaluateFlowFrom_feedTx (t : Tag) (n : Nat) : (s.evaluateFlowFrom t n).feedTx = s.feedTx := by
  unfold State.evaluateFlowFrom; split <;> simp
@[simp] theorem State.evaluateFlowFrom_drainTx (t : Tag) (n : Nat) : (s.evaluateFlowFrom t n).drainTx = s.drainTx := by
  unfold State.evaluateFlowFrom; split <;> simp
@[simp] theorem State.evaluateFlowFrom_carrier (t : Tag) (n : Nat) : (s.evaluateFlowFrom t n).carrier = s.carrier := by
  unfold State.evaluateFlowFrom; split <;> simp
@[simp] theorem State.evaluateFlowFrom_credits (t : Tag) (n : Nat) : (s.evaluateFlowFrom t n).credits = s.credits := by
  unfold State.evaluateFlowFrom; split <;> simp
@[simp] theorem State.evaluateFlowFrom_positions (t : Tag) (n : Nat) : (s.evaluateFlowFrom t n).positions = s.positions := by
  unfold State.evaluateFlowFrom; split <;> simp
@[simp] theorem State.evaluateFlowFrom_notes (t : Tag) (n : Nat) : (s.evaluateFlowFrom t n).notes = s.notes := by
  unfold State.evaluateFlowFrom; split <;> simp
@[simp] theorem State.evaluateFlowFrom_slots (t : Tag) (n : Nat) : (s.evaluateFlowFrom t n).slots = s.slots := by
  unfold State.evaluateFlowFrom; split <;> simp
@[simp] theorem State.evaluateFlowFrom_resetPending (t : Tag) (n : Nat) : (s.evaluateFlowFrom t n).resetPending = s.resetPending := by
  unfold State.evaluateFlowFrom; split <;> simp
@[simp] theorem State.evaluateFlowFrom_settings (t : Tag) (n : Nat) : (s.evaluateFlowFrom t n).settings = s.settings := by
  unfold State.evaluateFlowFrom; split <;> simp
@[simp] theorem State.evaluateFlowFrom_port (t : Tag) (n : Nat) : (s.evaluateFlowFrom t n).port = s.port := by
  unfold State.evaluateFlowFrom; split <;> simp
@[simp] theorem State.evaluateFlowFrom_events (t : Tag) (n : Nat) : (s.evaluateFlowFrom t n).events = s.events := by
  unfold State.evaluateFlowFrom; split <;> simp
@[simp] theorem State.evaluateFlowFrom_drainRx (t : Tag) (n : Nat) : (s.evaluateFlowFrom t n).drainRx = s.drainRx := by
  unfold State.evaluateFlowFrom; split <;> simp
@[simp] theorem State.evaluateFlowFrom_freeCount (t : Tag) (n : Nat) : (s.evaluateFlowFrom t n).freeCount = s.freeCount := by
  unfold State.evaluateFlowFrom; split <;> simp
@[simp] theorem State.evaluateFlowFrom_atTick (t : Tag) (n : Nat) : (s.evaluateFlowFrom t n).atTick = s.atTick := by
  unfold State.evaluateFlowFrom; split <;> simp
@[simp] theorem State.evaluateFlowFrom_pending (t : Tag) (n : Nat) : (s.evaluateFlowFrom t n).pending = s.pending := by
  unfold State.evaluateFlowFrom; split <;> simp

@[simp] theorem State.mapped_evaluateFlow (t : Tag) (d : DrainTag) : (s.evaluateFlow t).mapped d = s.mapped d := by
  simp only [State.mapped, State.evaluateFlow_drainMap]
@[simp] theorem State.mapped_evaluateFlowFrom (t : Tag) (n : Nat) (d : DrainTag) :
    (s.evaluateFlowFrom t n).mapped d = s.mapped d := by simp only [State.mapped, State.evaluateFlowFrom_drainMap]

theorem State.stream_evaluateFlow (t u : Tag) :
    (s.evaluateFlow t).stream u =
      if u = t then { s.stream t with
        flow := (s.stream t).flow.evaluate (s.stream t).occupancy (s.stream t).config.highWatermark
          (s.stream t).config.lowWatermark }
      else s.stream u := State.stream_updateStream _ _ _ _

/-- The flow block's evaluation touches the flow state of its own stream alone, and none that is CLOSED (R127, R129). -/
theorem State.stream_evaluateFlowFrom (t u : Tag) (n : Nat) :
    (s.evaluateFlowFrom t n).stream u =
      if u = t ∧ (s.stream t).occupancy ≠ n ∧ (s.stream t).state ≠ .closed then { s.stream t with
        flow := (s.stream t).flow.evaluate (s.stream t).occupancy (s.stream t).config.highWatermark
          (s.stream t).config.lowWatermark }
      else s.stream u := by
  unfold State.evaluateFlowFrom
  split
  · next h => rw [if_neg]; tauto
  · next h =>
    rw [State.stream_evaluateFlow]
    by_cases hu : u = t
    · rw [if_pos hu, if_pos]; tauto
    · rw [if_neg hu, if_neg]; tauto

theorem State.stream_evaluateFlowFrom_ne {t u : Tag} (n : Nat) (h : u ≠ t) :
    (s.evaluateFlowFrom t n).stream u = s.stream u := by
  rw [State.stream_evaluateFlowFrom, if_neg]; tauto


/-! ### Return to the pool (R30, R33, R34) -/

@[simp] theorem Pool.giveBack_freeCells (p : Pool) (rs : List FrameRecord) :
    (p.giveBack rs).freeCells = p.freeCells ++ rs.flatMap fun r => r.chain := rfl
@[simp] theorem Pool.giveBack_freeRecords (p : Pool) (rs : List FrameRecord) :
    (p.giveBack rs).freeRecords = p.freeRecords ++ rs.map fun r => r.number := rfl
@[simp] theorem Pool.giveBack_level (p : Pool) (rs : List FrameRecord) : (p.giveBack rs).level = p.level := rfl

@[simp] theorem State.handBack_phase (gone : List FrameRecord) : (s.handBack gone).phase = s.phase := by
  simp only [State.handBack]
@[simp] theorem State.handBack_resetPin (gone : List FrameRecord) : (s.handBack gone).resetPin = s.resetPin := by
  simp only [State.handBack]
@[simp] theorem State.handBack_carrierPin (gone : List FrameRecord) : (s.handBack gone).carrierPin = s.carrierPin := by
  simp only [State.handBack]
@[simp] theorem State.handBack_profile (gone : List FrameRecord) : (s.handBack gone).profile = s.profile := by
  simp only [State.handBack]
@[simp] theorem State.handBack_autoopen (gone : List FrameRecord) : (s.handBack gone).autoopen = s.autoopen := by
  simp only [State.handBack]
@[simp] theorem State.handBack_streams (gone : List FrameRecord) : (s.handBack gone).streams = s.streams := by
  simp only [State.handBack]
@[simp] theorem State.handBack_drainMap (gone : List FrameRecord) : (s.handBack gone).drainMap = s.drainMap := by
  simp only [State.handBack]
@[simp] theorem State.handBack_cells (gone : List FrameRecord) : (s.handBack gone).cells = s.cells := by
  simp only [State.handBack]
@[simp] theorem State.handBack_sentPool (gone : List FrameRecord) : (s.handBack gone).sentPool = s.sentPool := by
  simp only [State.handBack]
@[simp] theorem State.handBack_flowPosition (gone : List FrameRecord) : (s.handBack gone).flowPosition = s.flowPosition := by
  simp only [State.handBack]
@[simp] theorem State.handBack_feedRx (gone : List FrameRecord) : (s.handBack gone).feedRx = s.feedRx := by
  simp only [State.handBack]
@[simp] theorem State.handBack_feedTx (gone : List FrameRecord) : (s.handBack gone).feedTx = s.feedTx := by
  simp only [State.handBack]
@[simp] theorem State.handBack_carrier (gone : List FrameRecord) : (s.handBack gone).carrier = s.carrier := by
  simp only [State.handBack]
@[simp] theorem State.handBack_credits (gone : List FrameRecord) : (s.handBack gone).credits = s.credits := by
  simp only [State.handBack]
@[simp] theorem State.handBack_positions (gone : List FrameRecord) : (s.handBack gone).positions = s.positions := by
  simp only [State.handBack]
@[simp] theorem State.handBack_notes (gone : List FrameRecord) : (s.handBack gone).notes = s.notes := by
  simp only [State.handBack]
@[simp] theorem State.handBack_slots (gone : List FrameRecord) : (s.handBack gone).slots = s.slots := by
  simp only [State.handBack]
@[simp] theorem State.handBack_resetPending (gone : List FrameRecord) : (s.handBack gone).resetPending = s.resetPending := by
  simp only [State.handBack]
@[simp] theorem State.handBack_settings (gone : List FrameRecord) : (s.handBack gone).settings = s.settings := by
  simp only [State.handBack]
@[simp] theorem State.handBack_port (gone : List FrameRecord) : (s.handBack gone).port = s.port := by
  simp only [State.handBack]
@[simp] theorem State.handBack_events (gone : List FrameRecord) : (s.handBack gone).events = s.events := by
  simp only [State.handBack]
@[simp] theorem State.handBack_drainRx (gone : List FrameRecord) : (s.handBack gone).drainRx = s.drainRx := by
  simp only [State.handBack]
@[simp] theorem State.handBack_freeCount (gone : List FrameRecord) : (s.handBack gone).freeCount = s.freeCount := by
  simp only [State.handBack]
@[simp] theorem State.handBack_atTick (gone : List FrameRecord) : (s.handBack gone).atTick = s.atTick := by
  simp only [State.handBack]
@[simp] theorem State.handBack_pending (gone : List FrameRecord) : (s.handBack gone).pending = s.pending := by
  simp only [State.handBack]

@[simp] theorem State.stream_handBack (gone : List FrameRecord) (t : Tag) : (s.handBack gone).stream t = s.stream t := by
  simp only [State.stream, State.handBack_streams]
@[simp] theorem State.mapped_handBack (gone : List FrameRecord) (d : DrainTag) :
    (s.handBack gone).mapped d = s.mapped d := by simp only [State.mapped, State.handBack_drainMap]
@[simp] theorem State.handBack_level (gone : List FrameRecord) : (s.handBack gone).pool.level = s.pool.level := rfl

/-- What a release gives back, in the statements' words. -/
theorem releasedTo_handBack (gone : List FrameRecord) : ReleasedTo s (s.handBack gone) gone := ⟨rfl, rfl, rfl⟩


/-! ### Release (R80) -/

@[simp] theorem State.release_phase (t : Tag) (k : Nat) : (s.release t k).phase = s.phase := by simp [State.release]
@[simp] theorem State.release_resetPin (t : Tag) (k : Nat) : (s.release t k).resetPin = s.resetPin := by
  simp [State.release]
@[simp] theorem State.release_carrierPin (t : Tag) (k : Nat) : (s.release t k).carrierPin = s.carrierPin := by
  simp [State.release]
@[simp] theorem State.release_profile (t : Tag) (k : Nat) : (s.release t k).profile = s.profile := by
  simp [State.release]
@[simp] theorem State.release_autoopen (t : Tag) (k : Nat) : (s.release t k).autoopen = s.autoopen := by
  simp [State.release]
@[simp] theorem State.release_drainMap (t : Tag) (k : Nat) : (s.release t k).drainMap = s.drainMap := by
  simp [State.release]
@[simp] theorem State.release_cells (t : Tag) (k : Nat) : (s.release t k).cells = s.cells := by simp [State.release]
@[simp] theorem State.release_sentPool (t : Tag) (k : Nat) : (s.release t k).sentPool = s.sentPool := by
  simp [State.release]
@[simp] theorem State.release_flowPosition (t : Tag) (k : Nat) : (s.release t k).flowPosition = s.flowPosition := by
  simp [State.release]
@[simp] theorem State.release_feedRx (t : Tag) (k : Nat) : (s.release t k).feedRx = s.feedRx := by
  simp [State.release]
@[simp] theorem State.release_feedTx (t : Tag) (k : Nat) : (s.release t k).feedTx = s.feedTx := by
  simp [State.release]
@[simp] theorem State.release_carrier (t : Tag) (k : Nat) : (s.release t k).carrier = s.carrier := by
  simp [State.release]
@[simp] theorem State.release_credits (t : Tag) (k : Nat) : (s.release t k).credits = s.credits := by
  simp [State.release]
@[simp] theorem State.release_positions (t : Tag) (k : Nat) : (s.release t k).positions = s.positions := by
  simp [State.release]
@[simp] theorem State.release_notes (t : Tag) (k : Nat) : (s.release t k).notes = s.notes := by simp [State.release]
@[simp] theorem State.release_slots (t : Tag) (k : Nat) : (s.release t k).slots = s.slots := by simp [State.release]
@[simp] theorem State.release_resetPending (t : Tag) (k : Nat) : (s.release t k).resetPending = s.resetPending := by
  simp [State.release]
@[simp] theorem State.release_settings (t : Tag) (k : Nat) : (s.release t k).settings = s.settings := by
  simp [State.release]
@[simp] theorem State.release_port (t : Tag) (k : Nat) : (s.release t k).port = s.port := by simp [State.release]
@[simp] theorem State.release_events (t : Tag) (k : Nat) : (s.release t k).events = s.events := by
  simp [State.release]
@[simp] theorem State.release_drainRx (t : Tag) (k : Nat) : (s.release t k).drainRx = s.drainRx := by
  simp [State.release]
@[simp] theorem State.release_freeCount (t : Tag) (k : Nat) : (s.release t k).freeCount = s.freeCount := by
  simp [State.release]
@[simp] theorem State.release_atTick (t : Tag) (k : Nat) : (s.release t k).atTick = s.atTick := by
  simp [State.release]
@[simp] theorem State.release_pending (t : Tag) (k : Nat) : (s.release t k).pending = s.pending := by
  simp [State.release]

theorem State.stream_release (t u : Tag) (k : Nat) :
    (s.release t k).stream u =
      if u = t then { s.stream t with
        queue := (s.stream t).queue.drop k
        occupancy := (s.stream t).occupancy - cellsOf ((s.stream t).queue.take k)
        head := (s.stream t).head + BitVec.ofNat 12 ((s.stream t).queue.take k).length }
      else s.stream u := by
  simp only [State.release, State.stream_handBack, State.stream_updateStream]

@[simp] theorem State.mapped_release (t : Tag) (k : Nat) (d : DrainTag) : (s.release t k).mapped d = s.mapped d := by
  simp only [State.mapped, State.release_drainMap]
@[simp] theorem State.release_level (t : Tag) (k : Nat) : (s.release t k).pool.level = s.pool.level := rfl
theorem releasedTo_release (t : Tag) (k : Nat) : ReleasedTo s (s.release t k) ((s.stream t).queue.take k) := ⟨rfl, rfl, rfl⟩


/-! ### Stream state changes (R10 to R16) -/

@[simp] theorem State.enterClosed_phase (t : Tag) : (s.enterClosed t).phase = s.phase := by simp [State.enterClosed]
@[simp] theorem State.enterClosed_resetPin (t : Tag) : (s.enterClosed t).resetPin = s.resetPin := by
  simp [State.enterClosed]
@[simp] theorem State.enterClosed_carrierPin (t : Tag) : (s.enterClosed t).carrierPin = s.carrierPin := by
  simp [State.enterClosed]
@[simp] theorem State.enterClosed_profile (t : Tag) : (s.enterClosed t).profile = s.profile := by
  simp [State.enterClosed]
@[simp] theorem State.enterClosed_autoopen (t : Tag) : (s.enterClosed t).autoopen = s.autoopen := by
  simp [State.enterClosed]
@[simp] theorem State.enterClosed_cells (t : Tag) : (s.enterClosed t).cells = s.cells := by simp [State.enterClosed]
@[simp] theorem State.enterClosed_pool (t : Tag) : (s.enterClosed t).pool = s.pool := by simp [State.enterClosed]
@[simp] theorem State.enterClosed_sentPool (t : Tag) : (s.enterClosed t).sentPool = s.sentPool := by
  simp [State.enterClosed]
@[simp] theorem State.enterClosed_flowPosition (t : Tag) : (s.enterClosed t).flowPosition = s.flowPosition := by
  simp [State.enterClosed]
@[simp] theorem State.enterClosed_feedRx (t : Tag) : (s.enterClosed t).feedRx = s.feedRx := by
  simp [State.enterClosed]
@[simp] theorem State.enterClosed_feedTx (t : Tag) : (s.enterClosed t).feedTx = s.feedTx := by
  simp [State.enterClosed]
@[simp] theorem State.enterClosed_drainTx (t : Tag) : (s.enterClosed t).drainTx = s.drainTx := by
  simp [State.enterClosed]
@[simp] theorem State.enterClosed_carrier (t : Tag) : (s.enterClosed t).carrier = s.carrier := by
  simp [State.enterClosed]
@[simp] theorem State.enterClosed_credits (t : Tag) : (s.enterClosed t).credits = s.credits := by
  simp [State.enterClosed]
@[simp] theorem State.enterClosed_positions (t : Tag) : (s.enterClosed t).positions = s.positions := by
  simp [State.enterClosed]
@[simp] theorem State.enterClosed_notes (t : Tag) : (s.enterClosed t).notes = s.notes := by simp [State.enterClosed]
@[simp] theorem State.enterClosed_slots (t : Tag) : (s.enterClosed t).slots = s.slots := by simp [State.enterClosed]
@[simp] theorem State.enterClosed_resetPending (t : Tag) : (s.enterClosed t).resetPending = s.resetPending := by
  simp [State.enterClosed]
@[simp] theorem State.enterClosed_settings (t : Tag) : (s.enterClosed t).settings = s.settings := by
  simp [State.enterClosed]
@[simp] theorem State.enterClosed_port (t : Tag) : (s.enterClosed t).port = s.port := by simp [State.enterClosed]
@[simp] theorem State.enterClosed_events (t : Tag) : (s.enterClosed t).events = s.events := by
  simp [State.enterClosed]
@[simp] theorem State.enterClosed_drainRx (t : Tag) : (s.enterClosed t).drainRx = s.drainRx := by
  simp [State.enterClosed]
@[simp] theorem State.enterClosed_freeCount (t : Tag) : (s.enterClosed t).freeCount = s.freeCount := by
  simp [State.enterClosed]
@[simp] theorem State.enterClosed_atTick (t : Tag) : (s.enterClosed t).atTick = s.atTick := by
  simp [State.enterClosed]
@[simp] theorem State.enterClosed_pending (t : Tag) : (s.enterClosed t).pending = s.pending := by
  simp [State.enterClosed]

@[simp] theorem State.stream_enterClosed_self (t : Tag) : (s.enterClosed t).stream t = (s.stream t).closing := by
  simp [State.enterClosed]
theorem State.stream_enterClosed (t u : Tag) :
    (s.enterClosed t).stream u = if u = t then (s.stream t).closing else s.stream u := by
  simp [State.enterClosed, State.stream_updateStream]
theorem State.mapped_enterClosed (t : Tag) (d : DrainTag) :
    (s.enterClosed t).mapped d = if d = (s.stream t).config.drainTag then none else s.mapped d := by
  simp [State.enterClosed, State.mapped_setMapped]

@[simp] theorem State.closeDrained_phase (t : Tag) (o : CloseOutcome) : (s.closeDrained t o).phase = s.phase := by
  simp [State.closeDrained]
@[simp] theorem State.closeDrained_resetPin (t : Tag) (o : CloseOutcome) : (s.closeDrained t o).resetPin = s.resetPin := by
  simp [State.closeDrained]
@[simp] theorem State.closeDrained_carrierPin (t : Tag) (o : CloseOutcome) : (s.closeDrained t o).carrierPin = s.carrierPin := by
  simp [State.closeDrained]
@[simp] theorem State.closeDrained_profile (t : Tag) (o : CloseOutcome) : (s.closeDrained t o).profile = s.profile := by
  simp [State.closeDrained]
@[simp] theorem State.closeDrained_autoopen (t : Tag) (o : CloseOutcome) : (s.closeDrained t o).autoopen = s.autoopen := by
  simp [State.closeDrained]
@[simp] theorem State.closeDrained_cells (t : Tag) (o : CloseOutcome) : (s.closeDrained t o).cells = s.cells := by
  simp [State.closeDrained]
@[simp] theorem State.closeDrained_pool (t : Tag) (o : CloseOutcome) : (s.closeDrained t o).pool = s.pool := by
  simp [State.closeDrained]
@[simp] theorem State.closeDrained_sentPool (t : Tag) (o : CloseOutcome) : (s.closeDrained t o).sentPool = s.sentPool := by
  simp [State.closeDrained]
@[simp] theorem State.closeDrained_flowPosition (t : Tag) (o : CloseOutcome) : (s.closeDrained t o).flowPosition = s.flowPosition := by
  simp [State.closeDrained]
@[simp] theorem State.closeDrained_feedRx (t : Tag) (o : CloseOutcome) : (s.closeDrained t o).feedRx = s.feedRx := by
  simp [State.closeDrained]
@[simp] theorem State.closeDrained_feedTx (t : Tag) (o : CloseOutcome) : (s.closeDrained t o).feedTx = s.feedTx := by
  simp [State.closeDrained]
@[simp] theorem State.closeDrained_drainTx (t : Tag) (o : CloseOutcome) : (s.closeDrained t o).drainTx = s.drainTx := by
  simp [State.closeDrained]
@[simp] theorem State.closeDrained_carrier (t : Tag) (o : CloseOutcome) : (s.closeDrained t o).carrier = s.carrier := by
  simp [State.closeDrained]
@[simp] theorem State.closeDrained_credits (t : Tag) (o : CloseOutcome) : (s.closeDrained t o).credits = s.credits := by
  simp [State.closeDrained]
@[simp] theorem State.closeDrained_positions (t : Tag) (o : CloseOutcome) : (s.closeDrained t o).positions = s.positions := by
  simp [State.closeDrained]
@[simp] theorem State.closeDrained_notes (t : Tag) (o : CloseOutcome) : (s.closeDrained t o).notes = s.notes := by
  simp [State.closeDrained]
@[simp] theorem State.closeDrained_slots (t : Tag) (o : CloseOutcome) : (s.closeDrained t o).slots = s.slots := by
  simp [State.closeDrained]
@[simp] theorem State.closeDrained_resetPending (t : Tag) (o : CloseOutcome) : (s.closeDrained t o).resetPending = s.resetPending := by
  simp [State.closeDrained]
@[simp] theorem State.closeDrained_settings (t : Tag) (o : CloseOutcome) : (s.closeDrained t o).settings = s.settings := by
  simp [State.closeDrained]
@[simp] theorem State.closeDrained_port (t : Tag) (o : CloseOutcome) : (s.closeDrained t o).port = s.port := by
  simp [State.closeDrained]
@[simp] theorem State.closeDrained_drainRx (t : Tag) (o : CloseOutcome) : (s.closeDrained t o).drainRx = s.drainRx := by
  simp [State.closeDrained]
@[simp] theorem State.closeDrained_freeCount (t : Tag) (o : CloseOutcome) : (s.closeDrained t o).freeCount = s.freeCount := by
  simp [State.closeDrained]
@[simp] theorem State.closeDrained_atTick (t : Tag) (o : CloseOutcome) : (s.closeDrained t o).atTick = s.atTick := by
  simp [State.closeDrained]
@[simp] theorem State.closeDrained_pending (t : Tag) (o : CloseOutcome) : (s.closeDrained t o).pending = s.pending := by
  simp [State.closeDrained]

theorem State.stream_closeDrained (t u : Tag) (o : CloseOutcome) :
    (s.closeDrained t o).stream u = if u = t then (s.stream t).closing else s.stream u := by
  simp [State.closeDrained, State.stream_enterClosed]
theorem State.mapped_closeDrained (t : Tag) (o : CloseOutcome) (d : DrainTag) :
    (s.closeDrained t o).mapped d = if d = (s.stream t).config.drainTag then none else s.mapped d := by
  simp [State.closeDrained, State.mapped_enterClosed]
theorem State.closeDrained_events (t : Tag) (o : CloseOutcome) :
    (s.closeDrained t o).events = s.settings.record s.events (closedRecord t (s.stream t) (s.stream t).tail o.detail) := by
  simp only [State.closeDrained, State.raise_eq, State.enterClosed_events, State.enterClosed_settings]
  rfl

@[simp] theorem State.closeIfDrained_phase (t : Tag) (o : CloseOutcome) : (s.closeIfDrained t o).phase = s.phase := by
  unfold State.closeIfDrained; split <;> simp
@[simp] theorem State.closeIfDrained_resetPin (t : Tag) (o : CloseOutcome) : (s.closeIfDrained t o).resetPin = s.resetPin := by
  unfold State.closeIfDrained; split <;> simp
@[simp] theorem State.closeIfDrained_carrierPin (t : Tag) (o : CloseOutcome) : (s.closeIfDrained t o).carrierPin = s.carrierPin := by
  unfold State.closeIfDrained; split <;> simp
@[simp] theorem State.closeIfDrained_profile (t : Tag) (o : CloseOutcome) : (s.closeIfDrained t o).profile = s.profile := by
  unfold State.closeIfDrained; split <;> simp
@[simp] theorem State.closeIfDrained_autoopen (t : Tag) (o : CloseOutcome) : (s.closeIfDrained t o).autoopen = s.autoopen := by
  unfold State.closeIfDrained; split <;> simp
@[simp] theorem State.closeIfDrained_cells (t : Tag) (o : CloseOutcome) : (s.closeIfDrained t o).cells = s.cells := by
  unfold State.closeIfDrained; split <;> simp
@[simp] theorem State.closeIfDrained_pool (t : Tag) (o : CloseOutcome) : (s.closeIfDrained t o).pool = s.pool := by
  unfold State.closeIfDrained; split <;> simp
@[simp] theorem State.closeIfDrained_sentPool (t : Tag) (o : CloseOutcome) : (s.closeIfDrained t o).sentPool = s.sentPool := by
  unfold State.closeIfDrained; split <;> simp
@[simp] theorem State.closeIfDrained_flowPosition (t : Tag) (o : CloseOutcome) : (s.closeIfDrained t o).flowPosition = s.flowPosition := by
  unfold State.closeIfDrained; split <;> simp
@[simp] theorem State.closeIfDrained_feedRx (t : Tag) (o : CloseOutcome) : (s.closeIfDrained t o).feedRx = s.feedRx := by
  unfold State.closeIfDrained; split <;> simp
@[simp] theorem State.closeIfDrained_feedTx (t : Tag) (o : CloseOutcome) : (s.closeIfDrained t o).feedTx = s.feedTx := by
  unfold State.closeIfDrained; split <;> simp
@[simp] theorem State.closeIfDrained_drainTx (t : Tag) (o : CloseOutcome) : (s.closeIfDrained t o).drainTx = s.drainTx := by
  unfold State.closeIfDrained; split <;> simp
@[simp] theorem State.closeIfDrained_carrier (t : Tag) (o : CloseOutcome) : (s.closeIfDrained t o).carrier = s.carrier := by
  unfold State.closeIfDrained; split <;> simp
@[simp] theorem State.closeIfDrained_credits (t : Tag) (o : CloseOutcome) : (s.closeIfDrained t o).credits = s.credits := by
  unfold State.closeIfDrained; split <;> simp
@[simp] theorem State.closeIfDrained_positions (t : Tag) (o : CloseOutcome) : (s.closeIfDrained t o).positions = s.positions := by
  unfold State.closeIfDrained; split <;> simp
@[simp] theorem State.closeIfDrained_notes (t : Tag) (o : CloseOutcome) : (s.closeIfDrained t o).notes = s.notes := by
  unfold State.closeIfDrained; split <;> simp
@[simp] theorem State.closeIfDrained_slots (t : Tag) (o : CloseOutcome) : (s.closeIfDrained t o).slots = s.slots := by
  unfold State.closeIfDrained; split <;> simp
@[simp] theorem State.closeIfDrained_resetPending (t : Tag) (o : CloseOutcome) : (s.closeIfDrained t o).resetPending = s.resetPending := by
  unfold State.closeIfDrained; split <;> simp
@[simp] theorem State.closeIfDrained_settings (t : Tag) (o : CloseOutcome) : (s.closeIfDrained t o).settings = s.settings := by
  unfold State.closeIfDrained; split <;> simp
@[simp] theorem State.closeIfDrained_port (t : Tag) (o : CloseOutcome) : (s.closeIfDrained t o).port = s.port := by
  unfold State.closeIfDrained; split <;> simp
@[simp] theorem State.closeIfDrained_drainRx (t : Tag) (o : CloseOutcome) : (s.closeIfDrained t o).drainRx = s.drainRx := by
  unfold State.closeIfDrained; split <;> simp
@[simp] theorem State.closeIfDrained_freeCount (t : Tag) (o : CloseOutcome) : (s.closeIfDrained t o).freeCount = s.freeCount := by
  unfold State.closeIfDrained; split <;> simp
@[simp] theorem State.closeIfDrained_atTick (t : Tag) (o : CloseOutcome) : (s.closeIfDrained t o).atTick = s.atTick := by
  unfold State.closeIfDrained; split <;> simp
@[simp] theorem State.closeIfDrained_pending (t : Tag) (o : CloseOutcome) : (s.closeIfDrained t o).pending = s.pending := by
  unfold State.closeIfDrained; split <;> simp

theorem State.raise_events (e : EventRecord) : (s.raise e).events = s.settings.record s.events e := by
  rw [State.raise_eq]; rfl

@[simp] theorem State.openAt_phase (t : Tag) (x : Serial) : (s.openAt t x).phase = s.phase := by simp [State.openAt]
@[simp] theorem State.openAt_resetPin (t : Tag) (x : Serial) : (s.openAt t x).resetPin = s.resetPin := by
  simp [State.openAt]
@[simp] theorem State.openAt_carrierPin (t : Tag) (x : Serial) : (s.openAt t x).carrierPin = s.carrierPin := by
  simp [State.openAt]
@[simp] theorem State.openAt_profile (t : Tag) (x : Serial) : (s.openAt t x).profile = s.profile := by
  simp [State.openAt]
@[simp] theorem State.openAt_autoopen (t : Tag) (x : Serial) : (s.openAt t x).autoopen = s.autoopen := by
  simp [State.openAt]
@[simp] theorem State.openAt_cells (t : Tag) (x : Serial) : (s.openAt t x).cells = s.cells := by simp [State.openAt]
@[simp] theorem State.openAt_pool (t : Tag) (x : Serial) : (s.openAt t x).pool = s.pool := by simp [State.openAt]
@[simp] theorem State.openAt_sentPool (t : Tag) (x : Serial) : (s.openAt t x).sentPool = s.sentPool := by
  simp [State.openAt]
@[simp] theorem State.openAt_flowPosition (t : Tag) (x : Serial) : (s.openAt t x).flowPosition = s.flowPosition := by
  simp [State.openAt]
@[simp] theorem State.openAt_feedRx (t : Tag) (x : Serial) : (s.openAt t x).feedRx = s.feedRx := by
  simp [State.openAt]
@[simp] theorem State.openAt_feedTx (t : Tag) (x : Serial) : (s.openAt t x).feedTx = s.feedTx := by
  simp [State.openAt]
@[simp] theorem State.openAt_drainTx (t : Tag) (x : Serial) : (s.openAt t x).drainTx = s.drainTx := by
  simp [State.openAt]
@[simp] theorem State.openAt_carrier (t : Tag) (x : Serial) : (s.openAt t x).carrier = s.carrier := by
  simp [State.openAt]
@[simp] theorem State.openAt_credits (t : Tag) (x : Serial) : (s.openAt t x).credits = s.credits := by
  simp [State.openAt]
@[simp] theorem State.openAt_positions (t : Tag) (x : Serial) : (s.openAt t x).positions = s.positions := by
  simp [State.openAt]
@[simp] theorem State.openAt_notes (t : Tag) (x : Serial) : (s.openAt t x).notes = s.notes := by simp [State.openAt]
@[simp] theorem State.openAt_slots (t : Tag) (x : Serial) : (s.openAt t x).slots = s.slots := by simp [State.openAt]
@[simp] theorem State.openAt_resetPending (t : Tag) (x : Serial) : (s.openAt t x).resetPending = s.resetPending := by
  simp [State.openAt]
@[simp] theorem State.openAt_settings (t : Tag) (x : Serial) : (s.openAt t x).settings = s.settings := by
  simp [State.openAt]
@[simp] theorem State.openAt_port (t : Tag) (x : Serial) : (s.openAt t x).port = s.port := by simp [State.openAt]
@[simp] theorem State.openAt_events (t : Tag) (x : Serial) : (s.openAt t x).events = s.events := by
  simp [State.openAt]
@[simp] theorem State.openAt_drainRx (t : Tag) (x : Serial) : (s.openAt t x).drainRx = s.drainRx := by
  simp [State.openAt]
@[simp] theorem State.openAt_freeCount (t : Tag) (x : Serial) : (s.openAt t x).freeCount = s.freeCount := by
  simp [State.openAt]
@[simp] theorem State.openAt_atTick (t : Tag) (x : Serial) : (s.openAt t x).atTick = s.atTick := by
  simp [State.openAt]
@[simp] theorem State.openAt_pending (t : Tag) (x : Serial) : (s.openAt t x).pending = s.pending := by
  simp [State.openAt]

@[simp] theorem State.halt_phase (t : Tag) (c : HaltCause) : (s.halt t c).phase = s.phase := by simp [State.halt]
@[simp] theorem State.halt_resetPin (t : Tag) (c : HaltCause) : (s.halt t c).resetPin = s.resetPin := by
  simp [State.halt]
@[simp] theorem State.halt_carrierPin (t : Tag) (c : HaltCause) : (s.halt t c).carrierPin = s.carrierPin := by
  simp [State.halt]
@[simp] theorem State.halt_profile (t : Tag) (c : HaltCause) : (s.halt t c).profile = s.profile := by
  simp [State.halt]
@[simp] theorem State.halt_autoopen (t : Tag) (c : HaltCause) : (s.halt t c).autoopen = s.autoopen := by
  simp [State.halt]
@[simp] theorem State.halt_drainMap (t : Tag) (c : HaltCause) : (s.halt t c).drainMap = s.drainMap := by
  simp [State.halt]
@[simp] theorem State.halt_cells (t : Tag) (c : HaltCause) : (s.halt t c).cells = s.cells := by simp [State.halt]
@[simp] theorem State.halt_pool (t : Tag) (c : HaltCause) : (s.halt t c).pool = s.pool := by simp [State.halt]
@[simp] theorem State.halt_sentPool (t : Tag) (c : HaltCause) : (s.halt t c).sentPool = s.sentPool := by
  simp [State.halt]
@[simp] theorem State.halt_flowPosition (t : Tag) (c : HaltCause) : (s.halt t c).flowPosition = s.flowPosition := by
  simp [State.halt]
@[simp] theorem State.halt_feedRx (t : Tag) (c : HaltCause) : (s.halt t c).feedRx = s.feedRx := by simp [State.halt]
@[simp] theorem State.halt_feedTx (t : Tag) (c : HaltCause) : (s.halt t c).feedTx = s.feedTx := by simp [State.halt]
@[simp] theorem State.halt_drainTx (t : Tag) (c : HaltCause) : (s.halt t c).drainTx = s.drainTx := by
  simp [State.halt]
@[simp] theorem State.halt_carrier (t : Tag) (c : HaltCause) : (s.halt t c).carrier = s.carrier := by
  simp [State.halt]
@[simp] theorem State.halt_credits (t : Tag) (c : HaltCause) : (s.halt t c).credits = s.credits := by
  simp [State.halt]
@[simp] theorem State.halt_positions (t : Tag) (c : HaltCause) : (s.halt t c).positions = s.positions := by
  simp [State.halt]
@[simp] theorem State.halt_notes (t : Tag) (c : HaltCause) : (s.halt t c).notes = s.notes := by simp [State.halt]
@[simp] theorem State.halt_slots (t : Tag) (c : HaltCause) : (s.halt t c).slots = s.slots := by simp [State.halt]
@[simp] theorem State.halt_resetPending (t : Tag) (c : HaltCause) : (s.halt t c).resetPending = s.resetPending := by
  simp [State.halt]
@[simp] theorem State.halt_settings (t : Tag) (c : HaltCause) : (s.halt t c).settings = s.settings := by
  simp [State.halt]
@[simp] theorem State.halt_port (t : Tag) (c : HaltCause) : (s.halt t c).port = s.port := by simp [State.halt]
@[simp] theorem State.halt_drainRx (t : Tag) (c : HaltCause) : (s.halt t c).drainRx = s.drainRx := by
  simp [State.halt]
@[simp] theorem State.halt_freeCount (t : Tag) (c : HaltCause) : (s.halt t c).freeCount = s.freeCount := by
  simp [State.halt]
@[simp] theorem State.halt_atTick (t : Tag) (c : HaltCause) : (s.halt t c).atTick = s.atTick := by
  simp [State.halt]
@[simp] theorem State.halt_pending (t : Tag) (c : HaltCause) : (s.halt t c).pending = s.pending := by
  simp [State.halt]

theorem State.halt_events (t : Tag) (c : HaltCause) :
    (s.halt t c).events = s.settings.record s.events (haltedRecord t (s.stream t) c.detail) := by
  simp only [State.halt, State.raise_eq, State.updateStream_events, State.updateStream_settings]
  rfl
theorem State.stream_halt (t u : Tag) (c : HaltCause) :
    (s.halt t c).stream u =
      if u = t then { s.stream t with state := .halted, timer := .idle, closeRequested := false } else s.stream u := by
  simp [State.halt, State.stream_updateStream]
@[simp] theorem State.mapped_halt (t : Tag) (c : HaltCause) (d : DrainTag) : (s.halt t c).mapped d = s.mapped d := by
  simp [State.halt]


/-! ### A reservation returned (R30) -/

theorem State.stream_returnReservation (r : FrameRecord) :
    (s.returnReservation r).stream r.stream = { s.stream r.stream with
      occupancy := (s.stream r.stream).occupancy - r.chain.length
      flow := if (s.stream r.stream).state = .closed then (s.stream r.stream).flow
              else (s.stream r.stream).flowAt ((s.stream r.stream).occupancy - r.chain.length) } := by
  simp only [State.returnReservation, State.stream_evaluatePoolFrom, State.stream_evaluateFlowFrom,
    State.stream_updateStream_self]
  generalize hx : s.stream r.stream = x
  have : ({ s with pool := s.pool.giveBack [r] } : State).stream r.stream = x := hx
  rw [this]
  rw [Stream.flowAt_eq]
  by_cases hc : x.state = .closed
  · simp [hc]
  · by_cases ho : x.occupancy - r.chain.length = x.occupancy
    · rw [if_neg (by simp [ho])]; simp [ho]
    · rw [if_pos ⟨by trivial, ho, hc⟩]; simp only [hc, ho, if_false]

theorem State.stream_returnReservation_ne {r : FrameRecord} {v : Tag} (hv : v ≠ r.stream) :
    (s.returnReservation r).stream v = s.stream v := by
  simp only [State.returnReservation, State.stream_evaluatePoolFrom]
  rw [State.stream_evaluateFlowFrom_ne _ _ hv, State.stream_updateStream_ne _ _ hv]; rfl

@[simp] theorem State.returnReservation_freeCells (r : FrameRecord) :
    (s.returnReservation r).pool.freeCells = s.pool.freeCells ++ r.chain := by simp [State.returnReservation]
@[simp] theorem State.returnReservation_freeRecords (r : FrameRecord) :
    (s.returnReservation r).pool.freeRecords = s.pool.freeRecords ++ [r.number] := by simp [State.returnReservation]

theorem State.poolFollows_returnReservation (r : FrameRecord) : PoolFollows s (s.returnReservation r) s.events := by
  have := @poolFollows_evaluatePoolFrom s
    (({ s with pool := s.pool.giveBack [r] }.updateStream r.stream fun x =>
      { x with occupancy := x.occupancy - r.chain.length }).evaluateFlowFrom r.stream (s.stream r.stream).occupancy)
    (by simp) (by simp)
  simp only [State.evaluateFlowFrom_events, State.updateStream_events] at this
  exact this

@[simp] theorem State.returnReservation_phase (r : FrameRecord) : (s.returnReservation r).phase = s.phase := by
  simp [State.returnReservation]
@[simp] theorem State.returnReservation_resetPin (r : FrameRecord) : (s.returnReservation r).resetPin = s.resetPin := by
  simp [State.returnReservation]
@[simp] theorem State.returnReservation_carrierPin (r : FrameRecord) : (s.returnReservation r).carrierPin = s.carrierPin := by
  simp [State.returnReservation]
@[simp] theorem State.returnReservation_profile (r : FrameRecord) : (s.returnReservation r).profile = s.profile := by
  simp [State.returnReservation]
@[simp] theorem State.returnReservation_autoopen (r : FrameRecord) : (s.returnReservation r).autoopen = s.autoopen := by
  simp [State.returnReservation]
@[simp] theorem State.returnReservation_drainMap (r : FrameRecord) : (s.returnReservation r).drainMap = s.drainMap := by
  simp [State.returnReservation]
@[simp] theorem State.returnReservation_cells (r : FrameRecord) : (s.returnReservation r).cells = s.cells := by
  simp [State.returnReservation]
@[simp] theorem State.returnReservation_sentPool (r : FrameRecord) : (s.returnReservation r).sentPool = s.sentPool := by
  simp [State.returnReservation]
@[simp] theorem State.returnReservation_flowPosition (r : FrameRecord) : (s.returnReservation r).flowPosition = s.flowPosition := by
  simp [State.returnReservation]
@[simp] theorem State.returnReservation_feedRx (r : FrameRecord) : (s.returnReservation r).feedRx = s.feedRx := by
  simp [State.returnReservation]
@[simp] theorem State.returnReservation_feedTx (r : FrameRecord) : (s.returnReservation r).feedTx = s.feedTx := by
  simp [State.returnReservation]
@[simp] theorem State.returnReservation_drainTx (r : FrameRecord) : (s.returnReservation r).drainTx = s.drainTx := by
  simp [State.returnReservation]
@[simp] theorem State.returnReservation_carrier (r : FrameRecord) : (s.returnReservation r).carrier = s.carrier := by
  simp [State.returnReservation]
@[simp] theorem State.returnReservation_credits (r : FrameRecord) : (s.returnReservation r).credits = s.credits := by
  simp [State.returnReservation]
@[simp] theorem State.returnReservation_positions (r : FrameRecord) : (s.returnReservation r).positions = s.positions := by
  simp [State.returnReservation]
@[simp] theorem State.returnReservation_notes (r : FrameRecord) : (s.returnReservation r).notes = s.notes := by
  simp [State.returnReservation]
@[simp] theorem State.returnReservation_slots (r : FrameRecord) : (s.returnReservation r).slots = s.slots := by
  simp [State.returnReservation]
@[simp] theorem State.returnReservation_resetPending (r : FrameRecord) : (s.returnReservation r).resetPending = s.resetPending := by
  simp [State.returnReservation]
@[simp] theorem State.returnReservation_settings (r : FrameRecord) : (s.returnReservation r).settings = s.settings := by
  simp [State.returnReservation]
@[simp] theorem State.returnReservation_port (r : FrameRecord) : (s.returnReservation r).port = s.port := by
  simp [State.returnReservation]
@[simp] theorem State.returnReservation_drainRx (r : FrameRecord) : (s.returnReservation r).drainRx = s.drainRx := by
  simp [State.returnReservation]
@[simp] theorem State.returnReservation_freeCount (r : FrameRecord) : (s.returnReservation r).freeCount = s.freeCount := by
  simp [State.returnReservation]
@[simp] theorem State.returnReservation_atTick (r : FrameRecord) : (s.returnReservation r).atTick = s.atTick := by
  simp [State.returnReservation]
@[simp] theorem State.returnReservation_pending (r : FrameRecord) : (s.returnReservation r).pending = s.pending := by
  simp [State.returnReservation]
@[simp] theorem State.mapped_returnReservation (r : FrameRecord) (d : DrainTag) :
    (s.returnReservation r).mapped d = s.mapped d := by simp only [State.mapped, State.returnReservation_drainMap]

/-- What a returned reservation touches. -/
theorem State.returnReservation_frame (r : FrameRecord) :
    s.returnReservation r = { s with
      streams := (s.returnReservation r).streams
      pool := (s.returnReservation r).pool
      events := (s.returnReservation r).events } := by
  apply State.ext <;> simp

/-! ### Admission (R44 to R48) -/

@[simp] theorem State.admission_drawFree (k : Nat) (t : Tag) (n : Nat) :
    (s.drawFree k).admission t n = s.admission t n := rfl

/-- The admission tests in their order. -/
theorem State.admission_refusedState {t : Tag} (n : Nat) (h : (s.stream t).state ≠ .opened) :
    s.admission t n = .refusedState := if_pos h

theorem State.admission_refusedLimit {t : Tag} {n : Nat} (h : (s.stream t).state = .opened)
    (hl : (s.stream t).config.cellLimit < (s.stream t).occupancy + n) : s.admission t n = .refusedLimit := by
  unfold State.admission; dsimp only; rw [if_neg (not_not.2 h), if_pos hl]

theorem State.admission_refusedPool {t : Tag} {n : Nat} (h : (s.stream t).state = .opened)
    (hl : (s.stream t).occupancy + n ≤ (s.stream t).config.cellLimit)
    (hp : (2 ≤ (s.stream t).config.streamClass.val ∧ s.pool.freeCells.length < s.settings.reserve + n) ∨
      s.pool.freeCells.length < n ∨ s.pool.freeRecords = []) : s.admission t n = .refusedPool := by
  unfold State.admission; dsimp only; rw [if_neg (not_not.2 h), if_neg (by omega)]
  split
  · rfl
  · next c => rw [if_pos (hp.resolve_left c)]

theorem State.admission_admitted {t : Tag} {n : Nat} (h : (s.stream t).state = .opened)
    (hl : (s.stream t).occupancy + n ≤ (s.stream t).config.cellLimit)
    (hc : (s.stream t).config.streamClass.val < 2 ∨ s.settings.reserve + n ≤ s.pool.freeCells.length)
    (hf : n ≤ s.pool.freeCells.length) (hr : s.pool.freeRecords ≠ []) : s.admission t n = .admitted := by
  unfold State.admission; dsimp only; rw [if_neg (not_not.2 h), if_neg (by omega), if_neg (by omega), if_neg]
  rintro (c | c)
  · omega
  · exact hr c

end Sys2Proof.Machine
end

