-- ==== Sys2Proof/Laws/Arbiter.lean ====
section
/-!
SUPPORT. What the two arbiters choose (R112 to R116, R132): a round-robin search finds the tag of fewest turns, and the class
search the class to serve.
-/

namespace Sys2Proof.Machine

theorem searchTurns_lt (p t : Tag) : searchTurns p t < 63 := Nat.mod_lt _ (by omega)

/-- The tag that a search tries after k others. -/
def tagAtTurn (p : Tag) (k : Nat) : Tag := ⟨(p.val + 1 + k) % 63, Nat.mod_lt _ (by decide)⟩

theorem tagAtTurn_searchTurns (p t : Tag) : tagAtTurn p (searchTurns p t) = t := by
  apply Fin.ext; simp only [tagAtTurn, searchTurns, Tag.number]; omega

theorem searchTurns_tagAtTurn (p : Tag) {k : Nat} (h : k < 63) : searchTurns p (tagAtTurn p k) = k := by
  simp only [tagAtTurn, searchTurns, Tag.number]; omega

/-- R116, R132: the search finds t exactly when t passes and every other tag that passes comes later in the turn. -/
theorem searchAfter_eq_some {p t : Tag} {ok : Tag → Bool} :
    searchAfter p ok = some t ↔ ok t = true ∧ ∀ v, ok v = true → v ≠ t → searchTurns p t < searchTurns p v := by
  have e : searchAfter p ok = ((List.range 63).find? fun k => ok (tagAtTurn p k)).map (tagAtTurn p) := by
    unfold searchAfter tagsAfter; rw [List.find?_map]; rfl
  rw [e, Option.map_eq_some_iff]
  constructor
  · rintro ⟨k, hk, rfl⟩
    rw [List.find?_range_eq_some] at hk
    obtain ⟨hk1, hk2, hk3⟩ := hk
    rw [List.mem_range] at hk2
    refine ⟨hk1, fun v hv hne => ?_⟩
    rw [searchTurns_tagAtTurn p hk2]
    rcases Nat.lt_trichotomy k (searchTurns p v) with h | h | h
    · exact h
    · exact absurd (by rw [h, tagAtTurn_searchTurns]) hne
    · have := hk3 _ h; rw [tagAtTurn_searchTurns, hv] at this; simp at this
  · rintro ⟨ht, hv⟩
    refine ⟨searchTurns p t, ?_, tagAtTurn_searchTurns p t⟩
    rw [List.find?_range_eq_some]
    refine ⟨by rw [tagAtTurn_searchTurns]; exact ht, List.mem_range.2 (searchTurns_lt p t), fun j hj => ?_⟩
    cases hb : ok (tagAtTurn p j)
    · rfl
    · have hj63 : j < 63 := Nat.lt_trans hj (searchTurns_lt p t)
      by_cases hne : tagAtTurn p j = t
      · rw [← hne, searchTurns_tagAtTurn p hj63] at hj; omega
      · have := hv _ hb hne; rw [searchTurns_tagAtTurn p hj63] at this; omega

theorem searchAfter_eq_none {p : Tag} {ok : Tag → Bool} : searchAfter p ok = none ↔ ∀ v, ok v = false := by
  unfold searchAfter
  rw [List.find?_eq_none]
  constructor
  · intro h v
    have := h v (by
      unfold tagsAfter; rw [List.mem_map]
      exact ⟨searchTurns p v, List.mem_range.2 (searchTurns_lt p v), tagAtTurn_searchTurns p v⟩)
    simpa using this
  · intro h v _; simp [h v]

theorem StreamState.live_iff (x : Stream) : x.state.live = true ↔ x.Live := by
  unfold Stream.Live; cases x.state <;> simp [StreamState.live]

/-- R114: the test of a stream is the condition as the rule words it. -/
theorem Stream.eligible_iff (x : Stream) : x.eligible = true ↔ x.Eligible := by
  simp only [Stream.eligible, Stream.Eligible, Bool.and_eq_true, StreamState.live_iff, bne_iff_ne, Bool.not_eq_true',
    and_assoc]
  rw [decide_eq_true_iff]; rfl

variable {s : State}

/-- R116: the round robin of one class. -/
theorem State.firstOfClass_eq_some {c : StreamClass} {t : Tag} : s.firstOfClass c = some t ↔
    s.EligibleIn t c ∧
      ∀ v, s.EligibleIn v c → v ≠ t → searchTurns (s.positions.ofClass c) t < searchTurns (s.positions.ofClass c) v := by
  unfold State.firstOfClass State.EligibleIn
  rw [searchAfter_eq_some]
  simp only [Bool.and_eq_true, Stream.eligible_iff, beq_iff_eq]

theorem State.firstOfClass_eq_none {c : StreamClass} : s.firstOfClass c = none ↔ ¬ ∃ t, s.EligibleIn t c := by
  unfold State.firstOfClass State.EligibleIn
  rw [searchAfter_eq_none, not_exists]
  refine forall_congr' fun v => ?_
  rw [← Bool.not_eq_true, Bool.and_eq_true, Stream.eligible_iff, beq_iff_eq]

/-- R115: the class search over any list of classes. -/
theorem State.chooseAmong_eq_some {classes : List StreamClass} {credits : ClassWeights} {funded : StreamClass → Bool}
    {choice : DataChoice} : s.chooseAmong classes credits funded = some choice ↔
    ∃ before after, classes = before ++ choice.streamClass :: after ∧
      (∀ d ∈ before, funded d = true → s.firstOfClass d = none) ∧ funded choice.streamClass = true ∧
      s.firstOfClass choice.streamClass = some choice.stream ∧ choice.credits = credits := by
  induction classes with
  | nil => simp [State.chooseAmong]
  | cons c rest ih =>
    unfold State.chooseAmong
    split
    · next t h =>
      constructor
      · rintro ⟨⟩
        refine ⟨[], rest, rfl, by simp, ?_, ?_, rfl⟩ <;> (split at h <;> simp_all)
      · rintro ⟨before, after, e, h1, h2, h3, rfl⟩
        cases before with
        | nil =>
          obtain ⟨rfl, rfl⟩ : c = choice.streamClass ∧ rest = after := by simpa using e
          rw [if_pos h2, h3] at h; cases h; rfl
        | cons d before =>
          obtain ⟨rfl, -⟩ : c = d ∧ _ := by simpa using e
          split at h
          · next hf => rw [h1 c (by simp) hf] at h; cases h
          · cases h
    · next h =>
      rw [ih]
      constructor
      · rintro ⟨before, after, rfl, h1, h2⟩
        refine ⟨c :: before, after, rfl, ?_, h2⟩
        intro d hd hf
        rcases List.mem_cons.1 hd with rfl | hd
        · rw [if_pos hf] at h; exact h
        · exact h1 d hd hf
      · rintro ⟨before, after, e, h1, h2, h3, h4⟩
        cases before with
        | nil =>
          obtain ⟨rfl, rfl⟩ : c = choice.streamClass ∧ rest = after := by simpa using e
          rw [if_pos h2, h3] at h; cases h
        | cons d before =>
          obtain ⟨rfl, rfl⟩ : c = d ∧ rest = before ++ choice.streamClass :: after := by simpa using e
          exact ⟨before, after, rfl, fun d hd => h1 d (List.mem_cons_of_mem _ hd), h2, h3, h4⟩

/-- R113 to R116: the arbiter's choice among DATA streams is the stream that the rules name. -/
theorem State.chooseData_eq_some {choice : DataChoice} :
    s.chooseData = some choice ↔ s.ServesStream choice.stream choice.streamClass choice.credits := by
  have wait : ∀ d, (∃ t, s.EligibleIn t d) ↔ s.firstOfClass d ≠ none := fun d => by
    rw [ne_eq, State.firstOfClass_eq_none, not_not]
  have zero : ∀ k : DataChoice, s.chooseAmong [0] s.credits (fun _ => true) = some k ↔
      k.streamClass = 0 ∧ s.firstOfClass 0 = some k.stream ∧ k.credits = s.credits := by
    intro k; rw [State.chooseAmong_eq_some]
    constructor
    · rintro ⟨before, after, e, -, -, h3, h4⟩
      cases before with
      | nil =>
        obtain ⟨e0, -⟩ : 0 = k.streamClass ∧ _ := by simpa using e
        exact ⟨e0.symm, by rw [e0]; exact h3, h4⟩
      | cons _ b => cases b <;> simp at e
    · rintro ⟨h1, h2, h3⟩
      exact ⟨[], [], by rw [h1]; rfl, by simp, rfl, by rw [h1]; exact h2, h3⟩
  have among : ∀ (credits : ClassWeights) (funded : StreamClass → Bool) (k : DataChoice),
      s.chooseAmong [1, 2, 3] credits funded = some k ↔
      k.streamClass ≠ 0 ∧ (∀ d, d ≠ 0 → d < k.streamClass → funded d = true → s.firstOfClass d = none) ∧
        funded k.streamClass = true ∧ s.firstOfClass k.streamClass = some k.stream ∧ k.credits = credits := by
    intro credits funded k; rw [State.chooseAmong_eq_some]
    constructor
    · rintro ⟨before, after, e, h1, h2⟩
      refine ⟨?_, ?_, h2⟩
      · intro h
        have : k.streamClass ∈ ([1, 2, 3] : List StreamClass) := by rw [e]; simp
        rw [h] at this; revert this; decide
      · intro d hd hlt
        refine h1 d ?_
        have hc : k.streamClass = 1 ∨ k.streamClass = 2 ∨ k.streamClass = 3 := by
          have : k.streamClass ∈ ([1, 2, 3] : List StreamClass) := by rw [e]; simp
          simpa using this
        rcases hc with hc | hc | hc <;> rw [hc] at e hlt <;>
          rcases before with _ | ⟨a, _ | ⟨b, _ | ⟨x, _ | ⟨y, l⟩⟩⟩⟩ <;> simp at e ⊢ <;> clear h1 h2 hc <;> revert hlt hd <;>
          revert d <;> (obtain ⟨rfl, rfl, e⟩ := e; decide)
    · rintro ⟨h0, h1, h2⟩
      have hc : k.streamClass = 1 ∨ k.streamClass = 2 ∨ k.streamClass = 3 := by
        revert h0; generalize k.streamClass = c; revert c; decide
      rcases hc with hc | hc | hc <;> rw [hc] at h1 h2 ⊢
      · exact ⟨[], [2, 3], rfl, by simp, h2⟩
      · exact ⟨[1], [3], rfl, fun d hd => by
          simp only [List.mem_singleton] at hd; subst hd; exact h1 1 (by decide) (by decide), h2⟩
      · exact ⟨[1, 2], [], rfl, fun d hd => by
          simp only [List.mem_cons, List.not_mem_nil, or_false] at hd
          rcases hd with rfl | rfl
          · exact h1 1 (by decide) (by decide)
          · exact h1 2 (by decide) (by decide), h2⟩
  have first : ∀ c t, s.firstOfClass c = some t → s.firstOfClass c ≠ none := fun c t h => by rw [h]; simp
  unfold State.ServesStream State.ServesClass
  simp only [wait]
  rw [← and_assoc, and_comm (a := s.EligibleIn _ _), and_assoc, ← State.firstOfClass_eq_some]
  unfold State.chooseData
  split
  · next k hk =>
    rw [zero] at hk
    obtain ⟨h1, h2, h3⟩ := hk
    constructor
    · rintro ⟨⟩; exact ⟨.inl ⟨h1, h3⟩, by rw [h1]; exact h2⟩
    · rintro ⟨⟨e1, e2⟩ | ⟨-, h, -⟩ | ⟨-, h, -⟩, h4⟩
      · rw [e1, h2] at h4
        congr 1
        cases choice; cases k
        simp only [DataChoice.mk.injEq]
        simp only at h1 h3 e1 e2 h4
        exact ⟨by simpa using h4, by rw [h1, e1], by rw [h3, e2]⟩
      · exact absurd (first _ _ h2) (by simpa using h)
      · exact absurd (first _ _ h2) (by simpa using h)
  · next hz =>
    have hz0 : s.firstOfClass 0 = none := by
      cases h : s.firstOfClass 0 with
      | none => rfl
      | some t => have := (zero ⟨t, 0, s.credits⟩).2 ⟨rfl, h, rfl⟩; rw [hz] at this; cases this
    split
    · next k hk =>
      rw [among] at hk
      obtain ⟨h1, h2, h3, h4, h5⟩ := hk
      constructor
      · rintro ⟨⟩
        refine ⟨.inr (.inl ⟨h1, by simpa using hz0, by simpa using h3, fun d hd hlt hw => ?_, h5⟩), h4⟩
        by_contra hf; exact hw (h2 d hd hlt (by simpa using Nat.pos_of_ne_zero hf))
      · rintro ⟨⟨e1, -⟩ | ⟨h0, -, hf, hlow, hcr⟩ | ⟨-, -, hall, -⟩, hfst⟩
        · rw [e1, hz0] at hfst; cases hfst
        · have := (among s.credits (fun c => decide (0 < s.credits.ofClass c)) choice).2
            ⟨h0, fun d hd hlt hf => by
              by_contra hn; have := hlow d hd hlt hn; simp [this] at hf, by simpa using hf, hfst, hcr⟩
          rw [← this, (among s.credits _ k).2 ⟨h1, h2, h3, h4, h5⟩]
        · have := hall _ h1 (first _ _ h4); simp [this] at h3
    · next hn =>
      have hnone : ∀ d, d ≠ 0 → s.firstOfClass d ≠ none → s.credits.ofClass d = 0 := by
        have key : ∀ d, d ≠ 0 → (∀ e, e ≠ 0 → e < d → s.firstOfClass e ≠ none → s.credits.ofClass e = 0) →
            s.firstOfClass d ≠ none → s.credits.ofClass d = 0 := by
          intro d hd hlow hw
          by_contra hf
          obtain ⟨t, ht⟩ := Option.ne_none_iff_exists'.1 hw
          have := (among s.credits (fun c => decide (0 < s.credits.ofClass c)) ⟨t, d, s.credits⟩).2
            ⟨hd, fun e he hlt hfe => ?_, ?_, ht, rfl⟩
          · rw [hn] at this; cases this
          · by_contra hh; have := hlow e he hlt hh; simp [this] at hfe
          · simpa using Nat.pos_of_ne_zero hf
        have k1 := key 1 (by decide) (fun e he hlt => by exfalso; revert e; decide)
        have k2 := key 2 (by decide) (fun e he hlt => by
          have : e = 1 := by revert e; decide
          subst this; exact k1)
        have k3 := key 3 (by decide) (fun e he hlt => by
          have : e = 1 ∨ e = 2 := by revert e; decide
          rcases this with rfl | rfl
          · exact k1
          · exact k2)
        intro d hd
        have : d = 1 ∨ d = 2 ∨ d = 3 := by revert d; decide
        rcases this with rfl | rfl | rfl
        · exact k1
        · exact k2
        · exact k3
      rw [among]
      constructor
      · rintro ⟨h1, h2, -, h4, h5⟩
        exact ⟨.inr (.inr ⟨h1, by simpa using hz0, hnone, fun d hd hlt => by simpa using h2 d hd hlt rfl, h5⟩), h4⟩
      · rintro ⟨⟨e1, -⟩ | ⟨h0, -, hf, -, -⟩ | ⟨h0, -, -, hlow, hcr⟩, hfst⟩
        · rw [e1, hz0] at hfst; cases hfst
        · have := hnone _ h0 (first _ _ hfst); omega
        · exact ⟨h0, fun d hd hlt _ => by simpa using hlow d hd hlt, rfl, hfst, hcr⟩

/-! ### The drain arbiter's decision (R112, R113) -/

theorem NoteSlot.waitingNote_eq_some {x : NoteSlot} {n : Note} : x.waitingNote = some n ↔ x = .waiting n := by
  cases x <;> simp [NoteSlot.waitingNote]
theorem NoteSlot.waitingNote_eq_none {x : NoteSlot} : x.waitingNote = none ↔ ∀ n, x ≠ .waiting n := by
  cases x <;> simp [NoteSlot.waitingNote]

/-- R112, R113: the drain arbiter decides where it may, and takes the first candidate. -/
theorem State.drainDecision_eq_some {c : DrainChoice} :
    s.drainDecision = some c ↔ s.DrainFree ∧ s.drainCandidate = some c := by
  unfold State.drainDecision
  by_cases h : s.DrainFree
  · rw [if_pos (show s.Awake ∧ s.drainTx = none ∧ s.carrier = .up from h)]; simp [h]
  · rw [if_neg (show ¬ (s.Awake ∧ s.drainTx = none ∧ s.carrier = .up) from h)]; simp [h]

theorem State.drainDecision_data {k : DataChoice} : s.drainDecision = some (.data k) ↔
    s.DrainFree ∧ s.NoNoteWaits ∧ s.ServesStream k.stream k.streamClass k.credits := by
  rw [State.drainDecision_eq_some, State.NoNoteWaits, ← NoteSlot.waitingNote_eq_none, ← State.chooseData_eq_some]
  unfold State.drainCandidate
  cases s.notes.doneToConsumer <;> cases s.notes.refusedToConsumer <;> cases s.notes.forward.waitingNote <;> simp

theorem State.drainDecision_noteDone {k : Indication} :
    s.drainDecision = some (.noteDone k) ↔ s.DrainFree ∧ s.notes.doneToConsumer = some k := by
  rw [State.drainDecision_eq_some]
  unfold State.drainCandidate
  cases s.notes.doneToConsumer <;> cases s.notes.refusedToConsumer <;> cases s.notes.forward.waitingNote <;> simp

theorem State.drainDecision_noteRefused {k : Indication} : s.drainDecision = some (.noteRefused k) ↔
    s.DrainFree ∧ s.notes.refusedToConsumer = some k ∧ s.notes.doneToConsumer = none := by
  rw [State.drainDecision_eq_some]
  unfold State.drainCandidate
  cases s.notes.doneToConsumer <;> cases s.notes.refusedToConsumer <;> cases s.notes.forward.waitingNote <;> simp

theorem State.drainDecision_forwardNote {k : Note} : s.drainDecision = some (.forwardNote k) ↔
    s.DrainFree ∧ s.notes.forward = .waiting k ∧ s.notes.doneToConsumer = none ∧ s.notes.refusedToConsumer = none := by
  rw [State.drainDecision_eq_some, ← NoteSlot.waitingNote_eq_some]
  unfold State.drainCandidate
  cases s.notes.doneToConsumer <;> cases s.notes.refusedToConsumer <;> cases s.notes.forward.waitingNote <;> simp

/-! ### The feed arbiter's decision (R132, R170) -/

theorem Stream.pendingFlow_isSome {x : Stream} : x.pendingFlow.isSome = true ↔ x.flow ≠ x.sentFlow := by
  unfold Stream.pendingFlow; split <;> simp_all

/-- R132: the indication that the flow block supplies. -/
theorem State.flowCandidate_eq_some {i : FlowIndication} : s.flowCandidate = some i ↔ s.SendsFlow i := by
  unfold State.flowCandidate State.SendsFlow State.pendingPool
  by_cases hp : s.pool.level = s.sentPool
  · simp only [hp, if_true, ne_eq, not_true_eq_false, false_and, true_and, false_or]
    constructor
    · intro h
      split at h
      · next t ht =>
        rw [searchAfter_eq_some] at ht
        exact ⟨t, Stream.pendingFlow_isSome.1 ht.1, fun v hv => ht.2 v (Stream.pendingFlow_isSome.2 hv),
          (Option.some.inj h).symm⟩
      · cases h
    · rintro ⟨t, h1, h2, rfl⟩
      have ht : searchAfter s.flowPosition (fun t => (s.stream t).pendingFlow.isSome) = some t :=
        searchAfter_eq_some.2 ⟨Stream.pendingFlow_isSome.2 h1, fun v hv => h2 v (Stream.pendingFlow_isSome.1 hv)⟩
      rw [ht]
  · simp only [hp, if_false, ne_eq, not_false_eq_true, true_and, false_and, or_false]
    cases s.pool.level <;> simp [eq_comm]

theorem State.flowCandidate_eq_none : s.flowCandidate = none ↔ s.NoFlowPending := by
  unfold State.flowCandidate State.NoFlowPending State.pendingPool
  by_cases hp : s.pool.level = s.sentPool
  · simp only [hp, if_true, true_and]
    constructor
    · intro h t
      split at h
      · cases h
      · next hn =>
        by_contra ht
        have := searchAfter_eq_none.1 hn t
        rw [Stream.pendingFlow_isSome.2 ht] at this; cases this
    · intro h
      have : searchAfter s.flowPosition (fun t => (s.stream t).pendingFlow.isSome) = none :=
        searchAfter_eq_none.2 fun v => by simp [Stream.pendingFlow, h v]
      rw [this]
  · simp only [hp, if_false, false_and, iff_false]
    cases s.pool.level <;> simp

/-- R148: the oldest ANSWERING slot. -/
theorem oldestAnswer_eq_some {l : List Slot} {a : Response} : oldestAnswer l = some a ↔
    ∃ before after, l = before ++ .answering a :: after ∧ ∀ b, .answering b ∉ before := by
  induction l with
  | nil => simp [oldestAnswer]
  | cons x rest ih =>
    cases x with
    | answering r =>
      constructor
      · intro h; cases h; exact ⟨[], rest, rfl, by simp⟩
      · rintro ⟨before, after, e, hb⟩
        cases before with
        | nil => cases e; rfl
        | cons y b => cases e; exact absurd (List.mem_cons_self ..) (hb r)
    | queued r =>
      rw [show oldestAnswer (.queued r :: rest) = oldestAnswer rest from rfl, ih]
      constructor
      · rintro ⟨before, after, rfl, hb⟩
        exact ⟨.queued r :: before, after, rfl, by simpa using hb⟩
      · rintro ⟨before, after, e, hb⟩
        cases before with
        | nil => cases e
        | cons y b => cases e; exact ⟨b, after, rfl, fun k hk => hb k (List.mem_cons_of_mem _ hk)⟩
    | executing r =>
      rw [show oldestAnswer (.executing r :: rest) = oldestAnswer rest from rfl, ih]
      constructor
      · rintro ⟨before, after, rfl, hb⟩
        exact ⟨.executing r :: before, after, rfl, by simpa using hb⟩
      · rintro ⟨before, after, e, hb⟩
        cases before with
        | nil => cases e
        | cons y b => cases e; exact ⟨b, after, rfl, fun k hk => hb k (List.mem_cons_of_mem _ hk)⟩

theorem oldestAnswer_eq_none {l : List Slot} : oldestAnswer l = none ↔ ∀ a, .answering a ∉ l := by
  induction l with
  | nil => simp [oldestAnswer]
  | cons x rest ih =>
    cases x with
    | answering r => exact ⟨nofun, fun h => absurd (List.mem_cons_self ..) (h r)⟩
    | queued r => simpa [oldestAnswer] using ih
    | executing r => simpa [oldestAnswer] using ih

/-- R171: the frame that a choice of the feed arbiter puts on the link. -/
def FeedChoice.frame (c : FeedChoice) (lost : Nat) : FeedFrame :=
  match c with
  | .flow i => .flow i
  | .noteDone i => .noteDone i
  | .noteRefused i => .noteRefused i
  | .response r => .response r
  | .backNote n => .note n
  | .event e => .event e lost

/-- R170: the feed arbiter decides where it may, and takes what the table names first. -/
theorem State.feedDecision_eq_some {c : FeedChoice} :
    s.feedDecision = some c ↔ s.FeedFree ∧ s.FeedSends (c.frame s.events.lost) := by
  have key : s.feedCandidate = some c ↔ s.FeedSends (c.frame s.events.lost) := by
    cases c <;>
      simp only [FeedChoice.frame, State.FeedSends, ← State.flowCandidate_eq_some, ← State.flowCandidate_eq_none,
        ← oldestAnswer_eq_some] <;>
      (try simp only [← oldestAnswer_eq_none, ← NoteSlot.waitingNote_eq_some, ← NoteSlot.waitingNote_eq_none]) <;>
      unfold State.feedCandidate State.feedCandidates <;>
      cases s.flowCandidate <;> cases s.notes.doneToProducer <;> cases s.notes.refusedToProducer <;>
      cases oldestAnswer s.slots <;> cases s.notes.back.waitingNote <;> simp
  unfold State.feedDecision
  by_cases h : s.FeedFree
  · rw [if_pos (show s.Awake ∧ s.feedTx = none from h), key]; simp [h]
  · rw [if_neg (show ¬ (s.Awake ∧ s.feedTx = none) from h)]; simp [h]

end Sys2Proof.Machine
end

