-- ==== Sys2Proof/Laws/Carrier.lean ====
section
/-!
SUPPORT. What the carrier's two large steps do (R104, R105).
-/

namespace Sys2Proof.Machine

variable (s : State)

/-- Counting over the stream table is counting over the tags. -/
theorem State.countP_streams (p : Stream → Bool) :
    s.streams.toList.countP p = allTags.countP fun t => p (s.stream t) := by
  rw [State.streams_toList, List.countP_map]; rfl

/-! ### The restore (R104) -/

/-- R104: everything the restore writes. -/
theorem State.carrierUp_eq :
    s.carrierUp = { s with
      carrier := .up
      streams := (s.mapStreams Stream.restore).streams
      events := s.settings.record s.events (carrierUpRecord (s.streams.toList.countP Stream.restored)) } :=
  State.raise_eq _ _

theorem State.stream_carrierUp (t : Tag) :
    s.carrierUp.stream t = (s.stream t).restore := by
  rw [State.carrierUp_eq]
  exact s.stream_mapStreams _ t

/-! ### The loss (R105) -/

/-- R105: the loss before its evaluation of the pool. -/
theorem State.raise_dropCarrier (e : EventRecord) :
    s.dropCarrier.raise e = { s.dropCarrier with events := s.settings.record s.events e } := by
  have hs : s.dropCarrier.settings = s.settings := by simp only [State.dropCarrier]
  have he : s.dropCarrier.events = s.events := by simp only [State.dropCarrier]
  rw [State.raise_eq]; apply State.ext <;> simp only [hs, he, Settings.record]

theorem State.stream_dropCarrier (t : Tag) : s.dropCarrier.stream t = (s.stream t).carrierLost := by
  simp only [State.dropCarrier, State.stream, State.mapStreams, Vector.getElem_ofFn]

theorem State.stream_carrierLoss (t : Tag) : s.carrierLoss.stream t = (s.stream t).carrierLost := by
  unfold State.carrierLoss
  rw [State.stream_evaluatePoolFrom, State.stream_raise, State.stream_dropCarrier]

theorem State.carrierLoss_freeCells : s.carrierLoss.pool.freeCells =
    s.pool.freeCells ++ (abandonedRecords s.drainTx).flatMap fun r => r.chain := by
  unfold State.carrierLoss; rw [State.raise_dropCarrier]; simp [State.dropCarrier]
theorem State.carrierLoss_freeRecords : s.carrierLoss.pool.freeRecords =
    s.pool.freeRecords ++ (abandonedRecords s.drainTx).map fun r => r.number := by
  unfold State.carrierLoss; rw [State.raise_dropCarrier]; simp [State.dropCarrier]

theorem State.poolFollows_carrierLoss :
    PoolFollows s s.carrierLoss (s.settings.record s.events (carrierLostRecord s.drainTx s.runningTimers)) := by
  unfold State.carrierLoss
  have h := @poolFollows_evaluatePoolFrom s (s.dropCarrier.raise (carrierLostRecord s.drainTx s.runningTimers))
    (by simp [State.dropCarrier]) (by simp [State.dropCarrier])
  rw [State.raise_events] at h
  simpa only [State.dropCarrier] using h

/-- R105: what the loss leaves as it was. -/
theorem State.carrierLoss_frame : s.carrierLoss = { s with
    carrier := .down, drainRx := s.drainRx.carrierLost, drainTx := none, pool := s.carrierLoss.pool, streams := s.carrierLoss.streams
    notes := { s.notes with forward := s.notes.forward.carrierLost }, events := s.carrierLoss.events } := by
  unfold State.carrierLoss
  rw [State.raise_dropCarrier]; apply State.ext <;> simp [State.dropCarrier]

end Sys2Proof.Machine
end

