-- ==== Sys2Proof/Laws/Reset.lean ====
section
/-!
SUPPORT. What a device reset leaves (R4, R5, R6, R162).
-/

namespace Sys2Proof.Machine

variable (s : State)

theorem allTags_nodup : allTags.Nodup := List.nodup_finRange 63
theorem mem_allTags (t : Tag) : t ∈ allTags := List.mem_finRange t

/-- R10: the record that the opening of a stream leaves. -/
def Stream.openedAt (x : Stream) (serial : Serial) : Stream :=
  { x.opening serial with flow := if x.config.highWatermark ≤ x.occupancy then .paused else .go }

theorem State.stream_openAt (t v : Tag) (serial : Serial) :
    (s.openAt t serial).stream v = if v = t then (s.stream t).openedAt serial else s.stream v := by
  unfold State.openAt State.evaluateFlow
  rw [State.stream_updateStream]
  split
  · next h => subst h; simp [Stream.opening, Stream.openedAt, FlowState.evaluate, Stream.collapse]
  · next h => rw [State.stream_setMapped, State.stream_updateStream_ne _ _ h]

theorem State.mapped_openAt (t : Tag) (serial : Serial) (d : DrainTag) :
    (s.openAt t serial).mapped d = if d = (s.stream t).config.drainTag then some t else s.mapped d := by
  unfold State.openAt State.evaluateFlow
  rw [State.mapped_updateStream, State.mapped_setMapped, State.mapped_updateStream]

theorem State.openAt_frame (t : Tag) (serial : Serial) :
    s.openAt t serial = { s with streams := (s.openAt t serial).streams, drainMap := (s.openAt t serial).drainMap } := by
  apply State.ext <;> simp

/-- R6: opening the streams of a list, each once: their records. -/
theorem State.stream_foldl_openAt (l : List Tag) (serial : Serial) (s : State) (hl : l.Nodup) (v : Tag) :
    (l.foldl (fun s t => s.openAt t serial) s).stream v =
      if v ∈ l then (s.stream v).openedAt serial else s.stream v := by
  induction l generalizing s with
  | nil => simp
  | cons t rest ih =>
    rw [List.nodup_cons] at hl
    rw [List.foldl_cons, ih _ hl.2, State.stream_openAt]
    by_cases hv : v = t
    · subst hv; simp [hl.1]
    · simp [hv]

/-- R6, R7: opening the streams of a list: the drain-tag map. -/
theorem State.mapped_foldl_openAt (l : List Tag) (serial : Serial) (s : State) (hl : l.Nodup)
    (hd : ∀ t v, (s.stream t).config.drainTag = (s.stream v).config.drainTag → t = v) (d : DrainTag) :
    (l.foldl (fun s t => s.openAt t serial) s).mapped d =
      match l.find? fun t => (s.stream t).config.drainTag = d with
      | some t => some t
      | none => s.mapped d := by
  induction l generalizing s with
  | nil => rfl
  | cons t rest ih =>
    rw [List.nodup_cons] at hl
    have hc : ∀ v, ((s.openAt t serial).stream v).config = (s.stream v).config := by
      intro v; rw [State.stream_openAt]; split
      · next h => subst h; rfl
      · rfl
    rw [List.foldl_cons, ih _ hl.2 (by simpa only [hc] using hd), State.mapped_openAt]
    simp only [hc, List.find?_cons]
    by_cases ht : (s.stream t).config.drainTag = d
    · have hn : rest.find? (fun v => decide ((s.stream v).config.drainTag = d)) = none := by
        rw [List.find?_eq_none]
        intro v hv hvd
        have := hd v t (by rw [ht]; simpa using hvd)
        subst this; exact hl.1 hv
      simp [hn, ht]
    · have : d ≠ (s.stream t).config.drainTag := fun h => ht h.symm
      simp [ht, this]

theorem State.foldl_openAt_frame (l : List Tag) (serial : Serial) (s : State) :
    l.foldl (fun s t => s.openAt t serial) s = { s with
      streams := (l.foldl (fun s t => s.openAt t serial) s).streams
      drainMap := (l.foldl (fun s t => s.openAt t serial) s).drainMap } := by
  induction l generalizing s with
  | nil => rfl
  | cons t rest ih =>
    rw [List.foldl_cons, ih (s.openAt t serial)]
    apply State.ext <;> simp

variable (straps : Straps)

/-- R4: the record of a stream after device reset, before AUTOOPEN. -/
theorem State.stream_resetBlocks (t : Tag) : (s.resetBlocks straps).stream t =
    { config := profileConfig (sampledProfile straps) t
      budget := (profileConfig (sampledProfile straps) t).replayBudget } := by
  unfold State.stream State.resetBlocks; simp only [Vector.getElem_ofFn]

theorem State.mapped_resetBlocks (d : DrainTag) : (s.resetBlocks straps).mapped d = none := by
  unfold State.mapped State.resetBlocks State.reset; simp only [Vector.getElem_ofFn]

theorem profileConfig_drainTag (p : Fin 4) (t : Tag) : (profileConfig p t).drainTag.val = t.val + 1 := by
  match p with | 0 => rfl | 1 => rfl | 2 => rfl | 3 => rfl

/-- R4, R6: the record of a stream after device reset. -/
theorem State.stream_deviceReset (t : Tag) : (s.deviceReset straps).stream t =
    if straps.autoopen then ((s.resetBlocks straps).stream t).openedAt 0#12 else (s.resetBlocks straps).stream t := by
  unfold State.deviceReset State.openAllStreams
  split
  · rw [State.stream_foldl_openAt _ _ _ allTags_nodup, if_pos (mem_allTags t)]
  · rfl

/-- R5, R6: the drain-tag map after device reset. -/
theorem State.mapped_deviceReset (d : DrainTag) : (s.deviceReset straps).mapped d =
    if straps.autoopen = true ∧ 1 ≤ d.val ∧ d.val ≤ 63 then Tag.ofNumber? d.val else none := by
  unfold State.deviceReset State.openAllStreams
  have inj : ∀ t v, ((s.resetBlocks straps).stream t).config.drainTag = ((s.resetBlocks straps).stream v).config.drainTag →
      t = v := by
    intro t v h
    simp only [State.stream_resetBlocks] at h
    have := congrArg Fin.val h
    rw [profileConfig_drainTag, profileConfig_drainTag] at this
    apply Fin.ext; omega
  cases straps.autoopen
  · simp [State.mapped_resetBlocks]
  · simp only [if_true, true_and]
    rw [State.mapped_foldl_openAt _ _ _ allTags_nodup inj, State.mapped_resetBlocks]
    split
    · next t h =>
      have h1 := List.find?_some h
      simp only [State.stream_resetBlocks, decide_eq_true_eq] at h1
      have h2 := profileConfig_drainTag (sampledProfile straps) t
      rw [h1] at h2
      rw [if_pos (by omega)]
      have : Tag.ofNumber? d.val = some t := tagOfNumber_eq_some.2 h2.symm
      exact this.symm
    · next h =>
      rw [List.find?_eq_none] at h
      split
      · next hd =>
        exfalso
        refine h ⟨d.val - 1, by omega⟩ (List.mem_finRange _) ?_
        simp only [State.stream_resetBlocks, decide_eq_true_eq]
        apply Fin.ext; rw [profileConfig_drainTag]; show d.val - 1 + 1 = d.val; omega
      · rfl

/-- R162: every block but the stream table and the drain-tag map. -/
theorem State.deviceReset_frame : s.deviceReset straps = { s.resetBlocks straps with
    streams := (s.deviceReset straps).streams, drainMap := (s.deviceReset straps).drainMap } := by
  unfold State.deviceReset State.openAllStreams
  split
  · exact State.foldl_openAt_frame _ _ _
  · rfl

end Sys2Proof.Machine
end

