-- ==== Sys2Proof/Laws/Owed.lean ====
section
/-!
SUPPORT. What the part does by itself (R90, R102, R112, R170): each start, and everything owed done; where nothing is owed a command acts
on the state as it is.
-/

namespace Sys2Proof.Machine

variable {s : State}

/-! ### Starts -/

theorem State.startFeed_feedTx (c : FeedChoice) : (s.startFeed c).feedTx = some (c.frame s.events.lost) := by cases c <;> rfl

/-- R171: what a start on the feed link can write. -/
theorem State.startFeed_frame (c : FeedChoice) : s.startFeed c = { s with
    feedTx := (s.startFeed c).feedTx, streams := (s.startFeed c).streams, sentPool := (s.startFeed c).sentPool
    flowPosition := (s.startFeed c).flowPosition, notes := (s.startFeed c).notes, events := (s.startFeed c).events } := by
  cases c with
  | flow i => cases i <;> rfl
  | _ => rfl

/-- What the drain arbiter's decision, carried out, can write. -/
theorem State.decideDrain_frame (s : State) : s.decideDrain = { s with
    drainTx := s.decideDrain.drainTx, streams := s.decideDrain.streams, credits := s.decideDrain.credits
    positions := s.decideDrain.positions, notes := s.decideDrain.notes } := by
  unfold State.decideDrain
  split
  · rfl
  · rfl
  · rfl
  · split <;> rfl
  · rfl

/-- What the feed arbiter's decision, carried out, can write. -/
theorem State.decideFeed_frame (s : State) : s.decideFeed = { s with
    feedTx := s.decideFeed.feedTx, streams := s.decideFeed.streams, sentPool := s.decideFeed.sentPool
    flowPosition := s.decideFeed.flowPosition, notes := s.decideFeed.notes, events := s.decideFeed.events } := by
  unfold State.decideFeed
  split
  · exact State.startFeed_frame _
  · rfl

/-! ### What falls due at a tick -/

/-- R93, R94: an expiry writes the stream's record and the events. -/
theorem State.expire_frame (s : State) (t : Tag) :
    s.expire t = { s with streams := (s.expire t).streams, events := (s.expire t).events } := by
  unfold State.expire
  dsimp only
  split
  · simp only [State.raise_eq]; rfl
  · simp only [State.halt, State.raise_eq]; rfl

/-- R93, R94: an expiry leaves every other stream as it was. -/
theorem State.stream_expire_ne {t v : Tag} (h : v ≠ t) : (s.expire t).stream v = s.stream v := by
  unfold State.expire
  dsimp only
  split
  · simp only [State.stream_raise, State.stream_setStream_ne _ _ h, State.countStream, State.stream_updateStream_ne _ _ h]
  · simp only [State.halt, State.stream_raise, State.countStream, State.stream_updateStream_ne _ _ h]

/-- R93, R94: what an expiry makes of its stream's record. -/
def Stream.expired (x : Stream) : Stream :=
  let y := { x with timer := .idle, counters := { x.counters with timeouts := x.counters.timeouts + 1#32 } }
  if 0 < x.budget then { y with budget := x.budget - 1, cursor := x.head }
  else { y with state := .halted, closeRequested := false }

theorem State.stream_expire (t : Tag) : (s.expire t).stream t = (s.stream t).expired := by
  have hc : (s.countStream t fun c => { c with timeouts := c.timeouts + 1#32 }).stream t =
      { s.stream t with counters := { (s.stream t).counters with timeouts := (s.stream t).counters.timeouts + 1#32 } } := by
    simp [State.countStream]
  unfold State.expire Stream.expired
  simp only [hc]
  split
  · simp only [State.stream_raise, State.stream_setStream_self]; rfl
  · simp only [State.halt, State.stream_raise, State.stream_updateStream_self, hc]

/-- R92: an expiry leaves its timer IDLE. -/
theorem Stream.expired_timer (x : Stream) : x.expired.timer = .idle := by unfold Stream.expired; dsimp only; split <;> rfl

theorem State.foldl_expire_frame (l : List Tag) (s : State) : l.foldl State.expire s = { s with
    streams := (l.foldl State.expire s).streams, events := (l.foldl State.expire s).events } := by
  induction l generalizing s with
  | nil => rfl
  | cons t rest ih =>
    rw [List.foldl_cons, ih (s.expire t)]
    have h := s.expire_frame t
    generalize s.expire t = u at *
    rw [h]

theorem State.stream_foldl_expire_ne {l : List Tag} {v : Tag} (s : State) (h : v ∉ l) :
    (l.foldl State.expire s).stream v = s.stream v := by
  induction l generalizing s with
  | nil => rfl
  | cons t rest ih =>
    rw [List.mem_cons, not_or] at h
    rw [List.foldl_cons, ih _ h.2, State.stream_expire_ne h.1]

theorem State.stream_foldl_expire {l : List Tag} {v : Tag} (s : State) (hl : l.Nodup) (h : v ∈ l) :
    (l.foldl State.expire s).stream v = (s.stream v).expired := by
  induction l generalizing s with
  | nil => cases h
  | cons t rest ih =>
    rw [List.nodup_cons] at hl
    rw [List.foldl_cons]
    rcases List.mem_cons.1 h with rfl | hv
    · rw [State.stream_foldl_expire_ne _ hl.1, State.stream_expire]
    · rw [ih _ hl.2 hv, State.stream_expire_ne (by rintro rfl; exact hl.1 hv)]

/-- R90, R93, R94: the expiries of a tick: each stream whose timer is due expires once, and no other changes. -/
theorem State.stream_expireDue (t : Tag) :
    s.expireDue.stream t = if (s.stream t).timer = .due then (s.stream t).expired else s.stream t := by
  unfold State.expireDue
  split
  · next h => exact State.stream_foldl_expire _ (allTags_nodup.filter _) (by simp [h, mem_allTags])
  · next h => exact State.stream_foldl_expire_ne _ (by simp [h])

/-- R90, R92: once the expiries are taken no timer is due. -/
theorem State.timer_expireDue (t : Tag) : (s.expireDue.stream t).timer ≠ .due := by
  rw [State.stream_expireDue]
  split
  · rw [Stream.expired_timer]; exact Timer.noConfusion
  · assumption

theorem State.finishSettling_frame (s : State) : s.finishSettling = { s with
    carrier := s.finishSettling.carrier, streams := s.finishSettling.streams, events := s.finishSettling.events } := by
  unfold State.finishSettling
  split
  · rw [State.carrierUp_eq]
  · rfl

theorem State.takeTick_frame (s : State) : s.takeTick = { s with
    streams := s.takeTick.streams, carrier := s.takeTick.carrier, events := s.takeTick.events } := by
  unfold State.takeTick
  rw [State.finishSettling_frame, State.expireDue, State.foldl_expire_frame]

/-- R90, R102: everything that the lowering of the counts does. -/
theorem State.lowerCounts_frame (s : State) : s.lowerCounts = { s with
    carrier := s.carrier.tick, streams := s.lowerCounts.streams } := by
  unfold State.lowerCounts; rw [State.mapStreams]

theorem State.stream_lowerCounts (t : Tag) :
    s.lowerCounts.stream t = { s.stream t with timer := (s.stream t).timer.tick } :=
  State.stream_mapStreams { s with carrier := s.carrier.tick } (fun x => { x with timer := x.timer.tick }) t

/-- R90, R102: everything that a tick does. -/
theorem State.tick_frame (s : State) : s.tick = { s with
    carrier := s.carrier.tick, streams := s.lowerCounts.streams, atTick := s.lowerCounts.tickOwes } := by
  unfold State.tick
  generalize s.lowerCounts.tickOwes = b
  have h := s.lowerCounts_frame
  generalize s.lowerCounts = u at *
  rw [h]; rfl

@[simp] theorem State.tick_phase (s : State) : s.tick.phase = s.phase := by rw [State.tick_frame]
@[simp] theorem State.tick_resetPin (s : State) : s.tick.resetPin = s.resetPin := by rw [State.tick_frame]
@[simp] theorem State.tick_carrierPin (s : State) : s.tick.carrierPin = s.carrierPin := by rw [State.tick_frame]
@[simp] theorem State.tick_profile (s : State) : s.tick.profile = s.profile := by rw [State.tick_frame]
@[simp] theorem State.tick_autoopen (s : State) : s.tick.autoopen = s.autoopen := by rw [State.tick_frame]
@[simp] theorem State.tick_drainMap (s : State) : s.tick.drainMap = s.drainMap := by rw [State.tick_frame]
@[simp] theorem State.tick_cells (s : State) : s.tick.cells = s.cells := by rw [State.tick_frame]
@[simp] theorem State.tick_pool (s : State) : s.tick.pool = s.pool := by rw [State.tick_frame]
@[simp] theorem State.tick_sentPool (s : State) : s.tick.sentPool = s.sentPool := by rw [State.tick_frame]
@[simp] theorem State.tick_flowPosition (s : State) : s.tick.flowPosition = s.flowPosition := by rw [State.tick_frame]
@[simp] theorem State.tick_feedRx (s : State) : s.tick.feedRx = s.feedRx := by rw [State.tick_frame]
@[simp] theorem State.tick_drainRx (s : State) : s.tick.drainRx = s.drainRx := by rw [State.tick_frame]
@[simp] theorem State.tick_feedTx (s : State) : s.tick.feedTx = s.feedTx := by rw [State.tick_frame]
@[simp] theorem State.tick_drainTx (s : State) : s.tick.drainTx = s.drainTx := by rw [State.tick_frame]
@[simp] theorem State.tick_credits (s : State) : s.tick.credits = s.credits := by rw [State.tick_frame]
@[simp] theorem State.tick_positions (s : State) : s.tick.positions = s.positions := by rw [State.tick_frame]
@[simp] theorem State.tick_notes (s : State) : s.tick.notes = s.notes := by rw [State.tick_frame]
@[simp] theorem State.tick_slots (s : State) : s.tick.slots = s.slots := by rw [State.tick_frame]
@[simp] theorem State.tick_resetPending (s : State) : s.tick.resetPending = s.resetPending := by rw [State.tick_frame]
@[simp] theorem State.tick_settings (s : State) : s.tick.settings = s.settings := by rw [State.tick_frame]
@[simp] theorem State.tick_port (s : State) : s.tick.port = s.port := by rw [State.tick_frame]
@[simp] theorem State.tick_events (s : State) : s.tick.events = s.events := by rw [State.tick_frame]
@[simp] theorem State.tick_freeCount (s : State) : s.tick.freeCount = s.freeCount := by rw [State.tick_frame]
@[simp] theorem State.tick_pending (s : State) : s.tick.pending = s.pending := by rw [State.tick_frame]
@[simp] theorem State.tick_carrier (s : State) : s.tick.carrier = s.carrier.tick := by rw [State.tick_frame]
@[simp] theorem State.tick_atTick (s : State) : s.tick.atTick = s.lowerCounts.tickOwes := by rw [State.tick_frame]
@[simp] theorem State.mapped_tick (s : State) (d : DrainTag) : s.tick.mapped d = s.mapped d := by
  unfold State.mapped; simp only [State.tick_drainMap]

theorem State.stream_tick (t : Tag) : s.tick.stream t = { s.stream t with timer := (s.stream t).timer.tick } := by
  unfold State.tick; rw [State.stream_setAtTick, State.stream_lowerCounts]

/-! ### Everything owed -/

theorem State.settle_running (h : s.phase = .running) : s.settle = s.takeTick.decideDrain.decideFeed.setAtTick false := by
  unfold State.settle; rw [h]

theorem State.settle_inReset (h : s.phase = .inReset) : s.settle = s := by unfold State.settle; rw [h]

theorem State.expireDue_of_none (h : ∀ t : Tag, (s.stream t).timer ≠ .due) : s.expireDue = s := by
  unfold State.expireDue
  rw [List.filter_eq_nil_iff.2 fun t _ => by simpa using h t]; rfl

theorem State.finishSettling_of_ne (h : s.carrier ≠ .settled) : s.finishSettling = s := if_neg h

theorem State.takeTick_of_none (h : ∀ t : Tag, (s.stream t).timer ≠ .due) (hc : s.carrier ≠ .settled) : s.takeTick = s := by
  rw [State.takeTick, State.expireDue_of_none h, State.finishSettling_of_ne hc]

theorem State.decideDrain_of_none (h : s.drainDecision = none) : s.decideDrain = s := by unfold State.decideDrain; rw [h]

theorem State.decideFeed_of_none (h : s.feedDecision = none) : s.decideFeed = s := by unfold State.decideFeed; rw [h]

/-- Where nothing is owed, nothing is done. -/
theorem State.settle_of_quiet (h : s.Quiet) : s.settle = s := by
  obtain ⟨h1, h2, ha, h3, h4⟩ := h
  unfold State.settle
  split
  · rfl
  · rw [State.takeTick_of_none h1 h2, State.decideDrain_of_none h3, State.decideFeed_of_none h4, State.setAtTick, ← ha]

/-- What is owed leaves the phase, the pins, the sampled straps, the drain-tag map, the cells and the pool, the two receivers, the request
slots, the settings, the port counters and the queue of commands as they were. -/
theorem State.settle_frame (s : State) : s.settle = { s with
    streams := s.settle.streams, carrier := s.settle.carrier, events := s.settle.events, drainTx := s.settle.drainTx
    credits := s.settle.credits, positions := s.settle.positions, notes := s.settle.notes, feedTx := s.settle.feedTx
    flowPosition := s.settle.flowPosition, sentPool := s.settle.sentPool, atTick := s.settle.atTick } := by
  unfold State.settle
  split
  · rfl
  · have h1 := s.takeTick_frame
    generalize s.takeTick = u at *
    have h2 := u.decideDrain_frame
    generalize u.decideDrain = v at *
    have h3 := v.decideFeed_frame
    generalize v.decideFeed = w at *
    rw [h3, h2, h1]; rfl

@[simp] theorem State.settle_phase (s : State) : s.settle.phase = s.phase := by rw [State.settle_frame]
@[simp] theorem State.settle_resetPin (s : State) : s.settle.resetPin = s.resetPin := by rw [State.settle_frame]
@[simp] theorem State.settle_carrierPin (s : State) : s.settle.carrierPin = s.carrierPin := by rw [State.settle_frame]
@[simp] theorem State.settle_profile (s : State) : s.settle.profile = s.profile := by rw [State.settle_frame]
@[simp] theorem State.settle_autoopen (s : State) : s.settle.autoopen = s.autoopen := by rw [State.settle_frame]
@[simp] theorem State.settle_drainMap (s : State) : s.settle.drainMap = s.drainMap := by rw [State.settle_frame]
@[simp] theorem State.settle_cells (s : State) : s.settle.cells = s.cells := by rw [State.settle_frame]
@[simp] theorem State.settle_pool (s : State) : s.settle.pool = s.pool := by rw [State.settle_frame]
@[simp] theorem State.settle_feedRx (s : State) : s.settle.feedRx = s.feedRx := by rw [State.settle_frame]
@[simp] theorem State.settle_drainRx (s : State) : s.settle.drainRx = s.drainRx := by rw [State.settle_frame]
@[simp] theorem State.settle_slots (s : State) : s.settle.slots = s.slots := by rw [State.settle_frame]
@[simp] theorem State.settle_resetPending (s : State) : s.settle.resetPending = s.resetPending := by
  rw [State.settle_frame]
@[simp] theorem State.settle_settings (s : State) : s.settle.settings = s.settings := by rw [State.settle_frame]
@[simp] theorem State.settle_port (s : State) : s.settle.port = s.port := by rw [State.settle_frame]
@[simp] theorem State.settle_freeCount (s : State) : s.settle.freeCount = s.freeCount := by rw [State.settle_frame]
@[simp] theorem State.settle_pending (s : State) : s.settle.pending = s.pending := by rw [State.settle_frame]

/-! ### Nothing is left owed -/

/-- The drain arbiter's decision depends on no more than this. -/
theorem State.drainDecision_congr {u : State} (hp : u.phase = s.phase) (hr : u.resetPin = s.resetPin) (hd : u.drainTx = s.drainTx)
    (hc : u.carrier = s.carrier) (hn : u.notes.doneToConsumer = s.notes.doneToConsumer)
    (hf : u.notes.refusedToConsumer = s.notes.refusedToConsumer) (hw : u.notes.forward = s.notes.forward)
    (hcr : u.credits = s.credits) (hps : u.positions = s.positions) (hst : u.settings = s.settings)
    (hx : ∀ t, (u.stream t).eligible = (s.stream t).eligible ∧ (u.stream t).config = (s.stream t).config) :
    u.drainDecision = s.drainDecision := by
  have h1 : ∀ c, u.firstOfClass c = s.firstOfClass c := by
    intro c
    simp only [State.firstOfClass, hps, (hx _).1, (hx _).2]
  have h2 : ∀ classes credits funded, u.chooseAmong classes credits funded = s.chooseAmong classes credits funded := by
    intro classes credits funded
    induction classes with
    | nil => rfl
    | cons c rest ih => simp only [State.chooseAmong, h1, ih]
  unfold State.drainDecision State.drainCandidate State.chooseData State.Awake
  rw [hp, hr, hd, hc, hn, hf, hw, hcr, hst]
  simp only [h2]

/-- R170: a start on the feed link leaves every stream as eligible for DATA as it was. -/
theorem State.stream_startFeed (c : FeedChoice) (t : Tag) :
    ∃ f, (s.startFeed c).stream t = { s.stream t with sentFlow := f } := by
  have hu : ∀ (v : Tag) (f : FlowState), ∃ g, (s.updateStream v fun x => { x with sentFlow := f }).stream t =
      { s.stream t with sentFlow := g } := by
    intro v f
    by_cases h : t = v
    · subst h; exact ⟨f, State.stream_updateStream_self _ _ _⟩
    · exact ⟨_, State.stream_updateStream_ne _ _ h⟩
  cases c with
  | flow i =>
    cases i with
    | pause v => exact hu v .paused
    | go v => exact hu v .go
    | poolPause => exact ⟨_, rfl⟩
    | poolGo => exact ⟨_, rfl⟩
  | _ => exact ⟨_, rfl⟩

theorem State.drainDecision_decideFeed (s : State) : s.decideFeed.drainDecision = s.drainDecision := by
  unfold State.decideFeed
  split
  · next c _ =>
    have hn : (s.startFeed c).notes.doneToConsumer = s.notes.doneToConsumer ∧
        (s.startFeed c).notes.refusedToConsumer = s.notes.refusedToConsumer ∧
        (s.startFeed c).notes.forward = s.notes.forward := by
      cases c with
      | flow i => cases i <;> exact ⟨rfl, rfl, rfl⟩
      | _ => exact ⟨rfl, rfl, rfl⟩
    have h := s.startFeed_frame c
    refine State.drainDecision_congr ?_ ?_ ?_ ?_ hn.1 hn.2.1 hn.2.2 ?_ ?_ ?_ fun t => ?_
    all_goals try (rw [h]; done)
    obtain ⟨f, hf⟩ := s.stream_startFeed c t
    rw [hf]; exact ⟨rfl, rfl⟩
  · rfl

theorem State.feedDecision_decideFeed (s : State) : s.decideFeed.feedDecision = none := by
  unfold State.decideFeed
  split
  · next c _ =>
    unfold State.feedDecision
    rw [if_neg]
    intro h; rw [State.startFeed_feedTx] at h; cases h.2
  · next h => exact h

/-- R112: a decision that is carried out leaves nothing to decide; the chosen stream of one that is not has no frame at its cursor. -/
theorem State.drainDecision_decideDrain (s : State) : s.decideDrain.drainDecision = none ∨
    s.decideDrain = s ∧ ∃ choice, s.drainDecision = some (.data choice) ∧ (s.stream choice.stream).frameAtCursor = none := by
  have busy : ∀ u : State, u.drainTx ≠ none → u.drainDecision = none := fun u h => if_neg fun a => h a.2.1
  cases hd : s.drainDecision with
  | none => exact .inl (by unfold State.decideDrain; rw [hd]; exact hd)
  | some c =>
    cases c with
    | data choice =>
      cases hf : (s.stream choice.stream).frameAtCursor with
      | none => exact .inr ⟨by simp only [State.decideDrain, hd, hf], choice, rfl, hf⟩
      | some record =>
        exact .inl (by simp only [State.decideDrain, hd, hf]; exact busy _ (by simp [State.startData]))
    | noteDone i => exact .inl (by simp only [State.decideDrain, hd]; exact busy _ (by simp [State.startDoneToConsumer]))
    | noteRefused i => exact .inl (by simp only [State.decideDrain, hd]; exact busy _ (by simp [State.startRefusedToConsumer]))
    | forwardNote n => exact .inl (by simp only [State.decideDrain, hd]; exact busy _ (by simp [State.startForwardNote]))

/-- A decision carried out on either link writes no timer, no queue and no pointer but those of a stream whose frame starts. -/
theorem State.timer_decideDrain (s : State) (t : Tag) : (s.decideDrain.stream t).timer = (s.stream t).timer := by
  unfold State.decideDrain
  split
  · rfl
  · rfl
  · rfl
  · split
    · next choice _ _ record _ =>
      unfold State.startData
      by_cases h : t = choice.stream
      · subst h; rw [State.stream_setStream_self]; rfl
      · rw [State.stream_setStream_ne _ _ h]; rfl
    · rfl
  · rfl

theorem State.stream_decideFeed (s : State) (t : Tag) : ∃ f, s.decideFeed.stream t = { s.stream t with sentFlow := f } := by
  unfold State.decideFeed
  split
  · exact State.stream_startFeed _ t
  · exact ⟨_, rfl⟩

theorem State.timer_finishSettling (s : State) (t : Tag) (h : (s.stream t).timer ≠ .due) :
    (s.finishSettling.stream t).timer ≠ .due := by
  unfold State.finishSettling
  split
  · rw [State.stream_carrierUp]
    unfold Stream.restore
    split
    · exact Timer.noConfusion
    · exact h
  · exact h

theorem State.finishSettling_carrier (s : State) : s.finishSettling.carrier ≠ .settled := by
  unfold State.finishSettling
  split
  · rw [State.carrierUp_eq]; simp
  · assumption

/-- R92: once what the tick made due is taken no timer is due. -/
theorem State.timer_takeTick (t : Tag) : (s.takeTick.stream t).timer ≠ .due :=
  State.timer_finishSettling _ t (State.timer_expireDue t)

/-- R90, R102, R112, R170: what is owed is done whole: nothing falls due by it that it leaves, but for a stream without a frame at its
cursor, which R61 rules out. -/
theorem State.settle_quiet (s : State) (h : s.phase = .running) : s.settle.Quiet ∨
    (∀ t : Tag, (s.settle.stream t).timer ≠ .due) ∧ s.settle.carrier ≠ .settled ∧ s.settle.atTick = false ∧
      s.settle.feedDecision = none ∧
      ∃ choice, s.settle.drainDecision = some (.data choice) ∧ (s.settle.stream choice.stream).frameAtCursor = none := by
  have e := State.settle_running h
  have ht : ∀ t, (s.settle.stream t).timer ≠ .due := by
    intro t
    rw [e, State.stream_setAtTick]
    obtain ⟨f, hf⟩ := s.takeTick.decideDrain.stream_decideFeed t
    rw [hf]
    show (State.stream _ t).timer ≠ _
    rw [State.timer_decideDrain]
    exact State.timer_takeTick t
  have hc : s.settle.carrier ≠ .settled := by
    rw [e, State.setAtTick_carrier, State.decideFeed_frame]
    show (State.decideDrain _).carrier ≠ _
    rw [State.decideDrain_frame]
    exact State.finishSettling_carrier _
  have ha : s.settle.atTick = false := by rw [e]; rfl
  have hf : s.settle.feedDecision = none := by rw [e]; exact State.feedDecision_decideFeed _
  have hd : s.settle.drainDecision = s.takeTick.decideDrain.drainDecision := by
    rw [e]; exact State.drainDecision_decideFeed _
  rcases s.takeTick.drainDecision_decideDrain with h1 | ⟨h1, choice, h2, h3⟩
  · exact .inl ⟨ht, hc, ha, hd.trans h1, hf⟩
  · refine .inr ⟨ht, hc, ha, hf, choice, by rw [hd, h1, h2], ?_⟩
    rw [e, h1, State.stream_setAtTick]
    obtain ⟨f, hs⟩ := s.takeTick.stream_decideFeed choice.stream
    rw [hs]; exact h3

/-- What is owed is done once. -/
theorem State.settle_settle (s : State) : s.settle.settle = s.settle := by
  cases h : s.phase with
  | inReset => rw [State.settle_inReset h, State.settle_inReset h]
  | running =>
    rcases s.settle_quiet h with q | ⟨h1, h2, ha, h3, choice, h4, h5⟩
    · exact State.settle_of_quiet q
    · have hp : s.settle.phase = .running := (State.settle_phase s).trans h
      generalize s.settle = u at *
      have e3 : u.decideDrain = u := by simp only [State.decideDrain, h4, h5]
      rw [State.settle_running hp, State.takeTick_of_none h1 h2, e3, State.decideFeed_of_none h3, State.setAtTick, ← ha]

/-! ### What a command finds that can fall together with what a tick makes due -/

/-- Everything that such a command can find: the state itself in reset, what the tick made due taken, or everything owed done. -/
theorem State.found_cases (s : State) : s.phase = .inReset ∧ s.found = s ∨
    s.phase = .running ∧ s.atTick = true ∧ s.found = s.takeTick.setAtTick false ∨
    s.phase = .running ∧ s.atTick = false ∧ s.found = s.settle := by
  unfold State.found
  cases s.phase with
  | inReset => exact .inl ⟨rfl, rfl⟩
  | running => cases s.atTick <;> simp

theorem State.found_inReset (h : s.phase = .inReset) : s.found = s := by unfold State.found; rw [h]

theorem State.found_of_quiet (h : s.Quiet) : s.found = s := by
  rcases s.found_cases with ⟨_, e⟩ | ⟨_, ha, _⟩ | ⟨_, _, e⟩
  · exact e
  · exact absurd (h.2.2.1.symm.trans ha) (by decide)
  · rw [e, State.settle_of_quiet h]

/-- R90, R102: nothing of a tick is left due. -/
theorem State.tickOwes_eq_false : s.tickOwes = false ↔ (∀ t : Tag, (s.stream t).timer ≠ .due) ∧ s.carrier ≠ .settled := by
  unfold State.tickOwes
  rw [Bool.or_eq_false_iff, List.any_eq_false, beq_eq_false_iff_ne]
  simp only [beq_iff_eq, mem_allTags, true_implies, ne_eq]

/-- R92, R102: a command that finds the part running finds no timer due and no settled carrier. -/
theorem State.tickOwes_found (h : s.phase = .running) : s.found.tickOwes = false := by
  rw [State.tickOwes_eq_false]
  rcases s.found_cases with ⟨hr, _⟩ | ⟨_, _, e⟩ | ⟨_, _, e⟩
  · exact absurd (hr.symm.trans h) (by decide)
  · rw [e]; exact ⟨State.timer_takeTick, State.finishSettling_carrier _⟩
  · rw [e]
    rcases s.settle_quiet h with q | ⟨h1, h2, _⟩
    · exact ⟨q.1, q.2.1⟩
    · exact ⟨h1, h2⟩

/-- What such a command finds differs from the state before in no more than `State.settle` does. -/
theorem State.found_frame (s : State) : s.found = { s with
    streams := s.found.streams, carrier := s.found.carrier, events := s.found.events, drainTx := s.found.drainTx
    credits := s.found.credits, positions := s.found.positions, notes := s.found.notes, feedTx := s.found.feedTx
    flowPosition := s.found.flowPosition, sentPool := s.found.sentPool, atTick := s.found.atTick } := by
  rcases s.found_cases with ⟨_, e⟩ | ⟨_, _, e⟩ | ⟨_, _, e⟩
  · rw [e]
  · rw [e, State.setAtTick, State.takeTick_frame]
  · rw [e, State.settle_frame]

@[simp] theorem State.found_phase (s : State) : s.found.phase = s.phase := by rw [State.found_frame]
@[simp] theorem State.found_resetPin (s : State) : s.found.resetPin = s.resetPin := by rw [State.found_frame]
@[simp] theorem State.found_carrierPin (s : State) : s.found.carrierPin = s.carrierPin := by rw [State.found_frame]
@[simp] theorem State.found_profile (s : State) : s.found.profile = s.profile := by rw [State.found_frame]
@[simp] theorem State.found_autoopen (s : State) : s.found.autoopen = s.autoopen := by rw [State.found_frame]
@[simp] theorem State.found_drainMap (s : State) : s.found.drainMap = s.drainMap := by rw [State.found_frame]
@[simp] theorem State.found_cells (s : State) : s.found.cells = s.cells := by rw [State.found_frame]
@[simp] theorem State.found_pool (s : State) : s.found.pool = s.pool := by rw [State.found_frame]
@[simp] theorem State.found_feedRx (s : State) : s.found.feedRx = s.feedRx := by rw [State.found_frame]
@[simp] theorem State.found_drainRx (s : State) : s.found.drainRx = s.drainRx := by rw [State.found_frame]
@[simp] theorem State.found_slots (s : State) : s.found.slots = s.slots := by rw [State.found_frame]
@[simp] theorem State.found_resetPending (s : State) : s.found.resetPending = s.resetPending := by rw [State.found_frame]
@[simp] theorem State.found_settings (s : State) : s.found.settings = s.settings := by rw [State.found_frame]
@[simp] theorem State.found_port (s : State) : s.found.port = s.port := by rw [State.found_frame]
@[simp] theorem State.found_freeCount (s : State) : s.found.freeCount = s.freeCount := by rw [State.found_frame]
@[simp] theorem State.found_pending (s : State) : s.found.pending = s.pending := by rw [State.found_frame]

/-! ### What is in transmission, and device reset -/

/-- R112, R170: an arbiter decides only while its transmitter is free, so what is in transmission stays. -/
theorem State.settle_feedTx_of_some {f : FeedFrame} (h : s.feedTx = some f) : s.settle.feedTx = some f := by
  unfold State.settle State.takeTick
  split
  · exact h
  · have e : s.expireDue.finishSettling.decideDrain.feedTx = some f := by
      rw [State.decideDrain_frame, State.finishSettling_frame, State.expireDue, State.foldl_expire_frame]; exact h
    unfold State.decideFeed State.feedDecision
    rw [if_neg fun a => by rw [e] at a; cases a.2]
    exact e

theorem State.settle_drainTx_of_some {x : DrainTransmission} (h : s.drainTx = some x) : s.settle.drainTx = some x := by
  unfold State.settle State.takeTick
  split
  · exact h
  · have e : s.expireDue.finishSettling.drainTx = some x := by
      rw [State.finishSettling_frame, State.expireDue, State.foldl_expire_frame]; exact h
    rw [State.decideFeed_frame]
    show (State.decideDrain _).drainTx = _
    unfold State.decideDrain State.drainDecision
    rw [if_neg fun a => by rw [e] at a; cases a.2.1]
    exact e

theorem State.found_feedTx_of_some {f : FeedFrame} (h : s.feedTx = some f) : s.found.feedTx = some f := by
  rcases s.found_cases with ⟨_, e⟩ | ⟨_, _, e⟩ | ⟨_, _, e⟩
  · rw [e]; exact h
  · rw [e, State.setAtTick, State.takeTick_frame]; exact h
  · rw [e]; exact State.settle_feedTx_of_some h

theorem State.found_drainTx_of_some {x : DrainTransmission} (h : s.drainTx = some x) : s.found.drainTx = some x := by
  rcases s.found_cases with ⟨_, e⟩ | ⟨_, _, e⟩ | ⟨_, _, e⟩
  · rw [e]; exact h
  · rw [e, State.setAtTick, State.takeTick_frame]; exact h
  · rw [e]; exact State.settle_drainTx_of_some h

/-- A device reset rebuilds all that what is owed could change. -/
theorem State.deviceReset_settle (s : State) (straps : Straps) : s.settle.deviceReset straps = s.deviceReset straps := by
  have h : s.settle.resetBlocks straps = s.resetBlocks straps := by
    unfold State.resetBlocks
    simp only [State.settle_resetPin, State.settle_carrierPin, State.settle_cells, State.settle_freeCount,
      State.settle_pending]
  unfold State.deviceReset; rw [h]

theorem State.deviceReset_found (s : State) (straps : Straps) : s.found.deviceReset straps = s.deviceReset straps := by
  have h : s.found.resetBlocks straps = s.resetBlocks straps := by
    unfold State.resetBlocks
    simp only [State.found_resetPin, State.found_carrierPin, State.found_cells, State.found_freeCount, State.found_pending]
  unfold State.deviceReset; rw [h]

/-! ### Commands where nothing is owed -/

variable (effect : State → Result)

theorem State.afterOwed_quiet (h : s.Quiet) : s.afterOwed effect = effect s := by
  unfold State.afterOwed; rw [State.settle_of_quiet h]

theorem State.besideOwed_quiet (h : s.Quiet) : s.besideOwed effect = effect s := by
  unfold State.besideOwed; rw [State.found_of_quiet h]

/-- R106, R162: input that is taken acts on what it finds. -/
theorem State.onInput_found {a : State} (e : s.found = a) (h : a.Awake) : s.onInput effect = effect a := by
  subst e; exact if_pos h

theorem State.onInput_ready (h : s.Ready) : s.onInput effect = effect s :=
  State.onInput_found _ (State.found_of_quiet h.2) h.1

theorem State.onInput_inReset (h : s.phase = .inReset) : s.onInput effect = .next s := by
  unfold State.onInput State.besideOwed
  rw [State.found_inReset h]
  exact if_neg fun a => Phase.noConfusion (h.symm.trans a.1)

theorem State.onTransmission_ready (h : s.Ready) (mnemonic : String) : s.onTransmission mnemonic effect = effect s := by
  unfold State.onTransmission; rw [State.besideOwed_quiet _ h.2, if_pos h.1]

end Sys2Proof.Machine
end

