-- ==== Sys2Proof/Laws/Drain.lean ====
section
/-!
SUPPORT. The return receiver (R106, R121): the frames that the drain link brings, what the receiver makes of symbols, and what a good
frame comes to.
-/

namespace Sys2Proof.Machine

/-! ### Frames (R173, R174, R175) -/

theorem twoBytes_eq_numberBytes (n : Nat) : twoBytes n = numberBytes n := by
  unfold twoBytes numberBytes fieldBytes
  congr 1
  · apply BitVec.eq_of_toNat_eq; simp [BitVec.toNat_ofNat, BitVec.extractLsb'_toNat, Nat.shiftRight_eq_div_pow]; omega
  · congr 1; apply BitVec.eq_of_toNat_eq; simp [BitVec.toNat_ofNat, BitVec.extractLsb'_toNat]

/-- The frame of the statements is the frame of the machine. -/
theorem framed_eq_frameBytes (kind tag : Byte) (serial : Serial) (payload : List Byte) :
    framed kind tag serial.toNat payload = frameBytes kind tag serial payload := by
  have hs : twoBytes serial.toNat = serialBytes serial := by
    rw [twoBytes_eq_numberBytes]; unfold serialBytes numberBytes Serial.field; congr 1
    apply BitVec.eq_of_toNat_eq; simp
  unfold framed frameBytes frameCheck
  simp only [hs, twoBytes_eq_numberBytes]

@[simp] theorem frameBytes_length (kind tag : Byte) (serial : Serial) (payload : List Byte) :
    (frameBytes kind tag serial payload).length = payload.length + 10 := by
  simp [frameBytes, serialBytes, numberBytes, fieldBytes, frameCheck]

theorem bigEndian_fieldBytes (x : BitVec 16) : bigEndian (x.extractLsb' 8 8) (x.extractLsb' 0 8) = x := by
  unfold bigEndian
  ext i hi
  rw [BitVec.getElem_append]
  split
  · next h => simp [BitVec.getLsbD_eq_getElem hi]
  · next h => simp [show 8 + (i - 8) = i by omega, BitVec.getLsbD_eq_getElem hi]

/-- R173: the header that a frame's bytes spell. -/
theorem headerOf_frameBytes (kind tag : Byte) (serial : Serial) (payload : List Byte) :
    headerOf (frameBytes kind tag serial payload) =
      { kind := kind, tag := tag, serial := Serial.field serial, length := BitVec.ofNat 16 payload.length } := by
  simp [frameBytes, serialBytes, numberBytes, fieldBytes, headerOf, bigEndian_fieldBytes]

/-- A header is its first six bytes. -/
theorem headerOf_take (bytes : List Byte) {n : Nat} (h : 6 ≤ n) : headerOf (bytes.take n) = headerOf bytes := by
  obtain ⟨m, rfl⟩ := Nat.exists_eq_add_of_le' h
  match bytes with
  | [] | [_] | [_, _] | [_, _, _] | [_, _, _, _] | [_, _, _, _, _] => rfl
  | _ :: _ :: _ :: _ :: _ :: _ :: _ => rfl

/-- A drain-link header is refused exactly where R121 and R175 say that it is malformed. -/
theorem drainHeaderValid_eq_false (h : Header) : drainHeaderValid h = false ↔ h.MalformedOnDrain := by
  unfold drainHeaderValid Header.MalformedOnDrain
  simp only [kindAck, kindReplay, kindHold, kindResume, kindNote, kindNoteTaken, serialInRange, lengthIn]
  by_cases a : h.kind = 0x11#8
  · by_cases tg : h.tag = 255#8 <;> simp [a, tg] <;> omega
  by_cases b : h.kind = 0x12#8
  · by_cases tg : h.tag = 255#8 <;> simp [b, tg] <;> omega
  by_cases c : h.kind = 0x13#8
  · simp [c]; omega
  by_cases d : h.kind = 0x14#8
  · simp [d]; omega
  by_cases e : h.kind = 0x21#8
  · by_cases tg : h.tag = 0#8 <;> simp [e, tg] <;> omega
  by_cases f : h.kind = 0x22#8
  · by_cases tg : h.tag = 0#8 <;> simp [f, tg] <;> omega
  simp [a, b, c, d, e, f]

/-- R121: what the end marker decides of a frame with a complete header, in the order of the rule. -/
theorem dropCause_eq (bytes : List Byte) (damaged : Bool) (h : 6 ≤ bytes.length) :
    dropCause? bytes damaged =
      let covered := 6 + (headerOf bytes).length.toNat
      if bytes.length ≠ covered + 4 then some .malformed
      else if damaged = true ∨
        bytes.drop covered ≠ checkWordBytes (checkOutput (checkBytes checkInitial (bytes.take covered))) then some .checkError
      else none := by
  have e : ∀ n, checkBytes (checkBytes checkInitial (bytes.take 6)) ((bytes.drop 6).take n) =
      checkBytes checkInitial (bytes.take (6 + n)) := by
    intro n; unfold checkBytes; rw [← List.foldl_append, List.take_add]
  have hc : (bytes.length - 6 ≠ (headerOf bytes).length.toNat + 4) = (bytes.length ≠ 6 + (headerOf bytes).length.toNat + 4) :=
    propext (by omega)
  unfold dropCause?
  rw [if_neg (by omega), frameVerdict_eq]
  simp only [e, List.drop_drop, List.length_drop, hc]
  split
  · next h => split at h <;> rename_i c
              · rw [if_pos c]
              · split at h <;> cases h
  · next h => split at h <;> rename_i c
              · cases h
              · rw [if_neg c]; split at h <;> rename_i d
                · rw [if_pos d]
                · cases h
  · next h => split at h <;> rename_i c
              · cases h
              · rw [if_neg c]; split at h <;> rename_i d
                · cases h
                · rw [if_neg d]

/-- R121: a frame is good at its end if its LENGTH is the number of its payload bytes. -/
theorem dropCause_frameBytes (kind tag : Byte) (serial : Serial) (payload : List Byte) (h : payload.length < 65536) :
    dropCause? (frameBytes kind tag serial payload) false = none := by
  have e : (headerOf (frameBytes kind tag serial payload)).length.toNat = payload.length := by
    rw [headerOf_frameBytes]; simp; omega
  rw [dropCause_eq _ _ (by simp), e]
  have hl : ([kind, tag] ++ serialBytes serial ++ numberBytes payload.length ++ payload).length = 6 + payload.length := by
    simp [serialBytes, numberBytes, fieldBytes]; omega
  dsimp only
  rw [if_neg (by simp; omega), if_neg]
  unfold frameBytes frameCheck
  dsimp only
  rw [← hl, List.drop_left, List.take_left]; simp

/-! ### What the receiver makes of symbols (R121) -/

theorem laneBytes_dataSymbols (bytes : List Byte) : laneBytes (dataSymbols bytes) = bytes.map LaneByte.data := by
  induction bytes with
  | nil => rfl
  | cons b rest ih => exact congrArg (LaneByte.data b :: ·) ih

@[simp] theorem State.arrived_dataSymbols (s : State) (bytes : List Byte) : s.arrived (dataSymbols bytes) = bytes := by
  rw [State.arrived, laneBytes_dataSymbols, laneValues_data]

@[simp] theorem undecodedIn_dataSymbols (bytes : List Byte) : undecodedIn (dataSymbols bytes) = 0 := by
  rw [undecodedIn, laneBytes_dataSymbols, undecodedCount_data]

variable {s : State}

/-- R106, R121: everything that a start marker does. -/
theorem State.returnStarts_eq (s : State) : s.returnStarts = { s with drainRx := s.receiverAtStart, port := s.portAtStart } := by
  unfold State.returnStarts State.receiverAtStart State.portAtStart
  cases s.drainRx <;> rfl

/-- R121: everything that symbols make of a frame in reception. -/
theorem State.takeReturn_receiving {received : List Byte} {damaged : Bool} (h : s.drainRx = .receiving received damaged)
    (symbols : List LaneSymbol) :
    s.takeReturn symbols =
      let bytes := received ++ s.arrived symbols
      let drawn := { s with freeCount := s.freeCount + undecodedIn symbols }
      if 6 ≤ bytes.length ∧ drainHeaderValid (headerOf bytes) = false then
        { drawn with drainRx := .skipping, port := { s.port with drainMalformed := s.port.drainMalformed + 1#32 } }
      else { drawn with drainRx := .receiving bytes (damaged || undecodedIn symbols != 0) } := by
  unfold State.takeReturn; rw [h]; rfl

theorem State.takeReturn_of_not_receiving (h : ∀ received damaged, s.drainRx ≠ .receiving received damaged)
    (symbols : List LaneSymbol) : s.takeReturn symbols = s := by
  unfold State.takeReturn
  split
  · next e => exact absurd e (h _ _)
  all_goals rfl

/-- What reception can write. -/
theorem State.receive_frame (s : State) (opens : Bool) (symbols : List LaneSymbol) : s.receive opens symbols = { s with
    drainRx := (s.receive opens symbols).drainRx, port := (s.receive opens symbols).port
    freeCount := (s.receive opens symbols).freeCount } := by
  have h : ∀ u : State, u.takeReturn symbols = { u with
      drainRx := (u.takeReturn symbols).drainRx, port := (u.takeReturn symbols).port
      freeCount := (u.takeReturn symbols).freeCount } := by
    intro u
    unfold State.takeReturn
    split
    · dsimp only; split <;> rfl
    all_goals rfl
  unfold State.receive
  cases opens
  · exact h s
  · rw [if_pos rfl, h, State.returnStarts_eq]

/-- R121: an end marker where no frame is in reception. -/
theorem State.endReturn_of_not_receiving (h : ∀ received damaged, s.drainRx ≠ .receiving received damaged)
    (good : List Byte → State → Result) : s.endReturn good = .next { s with drainRx := .awaitStart } := by
  unfold State.endReturn
  split
  · next e => exact absurd e (h _ _)
  all_goals rfl

/-- R121: everything that an end marker makes of a frame in reception. -/
theorem State.endReturn_receiving {received : List Byte} {damaged : Bool} (h : s.drainRx = .receiving received damaged)
    (good : List Byte → State → Result) :
    s.endReturn good =
      match dropCause? received damaged with
      | some .malformed => .next { s with
          drainRx := .awaitStart, port := { s.port with drainMalformed := s.port.drainMalformed + 1#32 } }
      | some .checkError => .next { s with
          drainRx := .awaitStart, port := { s.port with drainCheckErrors := s.port.drainCheckErrors + 1#32 } }
      | none => good received { s with drainRx := .awaitStart } := by
  unfold State.endReturn; rw [h]; rfl

/-! ### Good frames (R121, R122) -/

/-- R121, R122: a good frame that ends in reception is taken. -/
theorem State.onReturn_taken {a : State} {part : FramePart} {kind tag : Byte} {serial : Serial} {payload : List Byte}
    (h : s.TakesReturn part (framed kind tag serial.toNat payload) a)
    (hv : drainHeaderValid { kind := kind, tag := tag, serial := Serial.field serial, length := BitVec.ofNat 16 payload.length } = true)
    (hp : payload.length < 65536) (mnemonic : String) (effect : State → State) :
    s.onReturn mnemonic part (frameBytes kind tag serial payload) effect = .next (effect a) := by
  rw [framed_eq_frameBytes] at h
  obtain ⟨ha, hc, h⟩ := h
  have good := dropCause_frameBytes kind tag serial payload hp
  have valid : drainHeaderValid (headerOf (frameBytes kind tag serial payload)) = true := by rw [headerOf_frameBytes]; exact hv
  generalize frameBytes kind tag serial payload = frame at *
  have ends : ∀ (u : State) (received rest : List Byte), u.drainRx = .receiving received false → received ++ rest = frame →
      ((u.takeReturn (dataSymbols rest)).endReturn fun bytes ended =>
        if bytes = frame then .next (effect ended) else .refused (.notPossible mnemonic)) =
        .next (effect { u with drainRx := .awaitStart }) := by
    intro u received rest hu hr
    rw [State.takeReturn_receiving hu]
    simp only [State.arrived_dataSymbols, undecodedIn_dataSymbols, hr, valid, Bool.true_eq_false, and_false, if_false]
    rw [State.endReturn_receiving rfl]
    simp [good]
  unfold State.onReturn
  rw [State.onInput_found _ rfl ha]
  cases part with
  | opening _ => exact h.elim
  | whole =>
    subst h
    have e := ends s.found.returnStarts [] frame (by rw [State.returnStarts_eq]; simp [State.receiverAtStart, hc]) rfl
    simp only [State.receive, opensFrame, partBytes, if_true]
    rw [e, State.returnStarts_eq]
  | closing =>
    obtain ⟨⟨received, hr, rest, rfl⟩, rfl⟩ := h
    have e := ends s.found received rest hr rfl
    simp only [State.receive, opensFrame, partBytes, hr, DrainReceiver.held, List.drop_left]
    exact e

theorem serialField_lt (serial : Serial) : (Serial.field serial).toNat < 4096 := by
  simp [Serial.field]; have := serial.isLt; omega

/-- ACK (R67, R121, R122): a good ACK that is taken is routed by its drain tag. -/
theorem execAck_taken {a : State} {part : FramePart} {d : Byte} {serial : Serial}
    (h : s.TakesReturn part (framed 0x11#8 d serial.toNat []) a) (hd : d ≠ 255#8) :
    execAck part ⟨d, serial⟩ s = .next (match a.streamOf d with
      | some t => a.takeAck t d serial
      | none => a.strayReturn kindAck d (Serial.field serial)) :=
  State.onReturn_taken (kind := kindAck) h
    (by simp [drainHeaderValid, serialInRange, serialField_lt, lengthIn, kindAck, hd]) (by simp) "ACK" _

/-- REPLAY (R67, R121, R122): a good REPLAY that is taken is routed by its drain tag. -/
theorem execReplay_taken {a : State} {part : FramePart} {d : Byte} {serial : Serial}
    (h : s.TakesReturn part (framed 0x12#8 d serial.toNat []) a) (hd : d ≠ 255#8) :
    execReplay part ⟨d, serial⟩ s = .next (match a.streamOf d with
      | some t => a.takeReplay t d serial
      | none => a.strayReturn kindReplay d (Serial.field serial)) :=
  State.onReturn_taken (kind := kindReplay) h
    (by simp [drainHeaderValid, serialInRange, serialField_lt, lengthIn, kindReplay, hd]) (by simp) "REPLAY" _

/-- HOLD (R118, R122): a good HOLD that is taken acts on one stream, or on all for drain tag 255. -/
theorem execHold_taken {a : State} {part : FramePart} {d : Byte} {serial : Serial}
    (h : s.TakesReturn part (framed 0x13#8 d serial.toNat []) a) :
    execHold (part, ⟨d, serial⟩) s = .next (if d = 255#8 then a.mapStreams fun x => if x.state = .closed then x else x.hold
      else match a.streamOf d with
        | some t => a.updateStream t Stream.hold
        | none => a.strayReturn kindHold d 0xFFFF#16) :=
  State.onReturn_taken (kind := kindHold) h
    (by simp [drainHeaderValid, serialInRange, serialField_lt, lengthIn, kindAck, kindReplay, kindHold]) (by simp) "HOLD" _

/-- RESUME (R118, R122): a good RESUME that is taken acts on one stream, or on all for drain tag 255. -/
theorem execResume_taken {a : State} {part : FramePart} {d : Byte} {serial : Serial}
    (h : s.TakesReturn part (framed 0x14#8 d serial.toNat []) a) :
    execResume (part, ⟨d, serial⟩) s = .next (if d = 255#8 then a.mapStreams fun x => if x.state = .closed then x else x.resume
      else match a.streamOf d with
        | some t => a.updateStream t Stream.resume
        | none => a.strayReturn kindResume d 0xFFFF#16) :=
  State.onReturn_taken (kind := kindResume) h
    (by simp [drainHeaderValid, serialInRange, serialField_lt, lengthIn, kindAck, kindReplay, kindHold, kindResume]) (by simp)
    "RESUME" _

/-- CONSUMER_NOTE (R122, R137): a good NOTE that is taken reaches the back slot. -/
theorem execConsumerNote_taken {a : State} {part : FramePart} {serial : Serial} {number : Byte} {payload : List Byte}
    (h : s.TakesReturn part (framed 0x21#8 0#8 serial.toNat (number :: payload)) a) (hp : payload.length ≤ 64) :
    execConsumerNote part ⟨serial, number, payload⟩ s = .next (a.backNoteArrives { number := number, payload := payload }) :=
  State.onReturn_taken (kind := kindNote) h
    (by simp [drainHeaderValid, serialInRange, serialField_lt, lengthIn, kindAck, kindReplay, kindHold, kindResume, kindNote]; omega)
    (by simp; omega) "CONSUMER_NOTE" _

/-- CONSUMER_NOTE_TAKEN (R122, R136): a good NOTE-TAKEN that is taken reaches the forward slot. -/
theorem execConsumerNoteTaken_taken {a : State} {part : FramePart} {serial : Serial} {number : Byte}
    (h : s.TakesReturn part (framed 0x22#8 0#8 serial.toNat [number]) a) :
    execConsumerNoteTaken (part, ⟨serial, number⟩) s = .next (a.forwardNoteTaken number) :=
  State.onReturn_taken (kind := kindNoteTaken) h
    (by simp [drainHeaderValid, serialInRange, serialField_lt, lengthIn, kindAck, kindReplay, kindHold, kindResume, kindNote,
      kindNoteTaken]) (by simp) "CONSUMER_NOTE_TAKEN" _

/-! ### Frames that are discarded (R106) -/

/-- R106: a start marker while the carrier is not UP begins a frame that is discarded, and its symbols change nothing. -/
theorem State.receive_discarded (h : ∀ received damaged, s.drainRx ≠ .receiving received damaged) (opens : Bool)
    (hc : opens = true → s.carrier ≠ .up) (symbols : List LaneSymbol) :
    s.receive opens symbols = if opens then { s with drainRx := .discarding } else s := by
  unfold State.receive
  cases opens
  · exact State.takeReturn_of_not_receiving h _
  · have e : s.returnStarts = { s with drainRx := .discarding } := by
      rw [State.returnStarts_eq]
      have p : s.portAtStart = s.port := by
        unfold State.portAtStart
        split
        · next e => exact absurd e (h _ _)
        · rfl
      rw [p, State.receiverAtStart, if_neg (hc rfl)]
    rw [if_pos rfl, if_pos rfl, e]
    exact State.takeReturn_of_not_receiving (fun _ _ => DrainReceiver.noConfusion) _

end Sys2Proof.Machine
end

