-- ==== Sys2Proof/Laws/Memory.lean ====
section
/-!
SUPPORT. The cell memory: every operation keeps its canonical form, a read after a write, and where a frame's payload lies.
-/

namespace Sys2Proof.Machine

/-- The canonical form of a memory with an entry in front. -/
theorem Memory.wf_cons {k : Nat} {v : Byte} {rest : Memory} :
    Memory.wf ((k, v) :: rest) = true ↔ v ≠ 0#8 ∧ (∀ c ∈ rest, k < c.1) ∧ Memory.wf rest = true := by
  simp only [Memory.wf, Bool.and_eq_true, bne_iff_ne, List.all_eq_true, decide_eq_true_eq, and_assoc]

/-- An address below every listed one reads 00h. -/
theorem Memory.read_below {m : Memory} {a : Nat} (h : ∀ c ∈ m, a < c.1) : m.read a = 0#8 := by
  induction m with
  | nil => rfl
  | cons e rest ih =>
    have he := h e (by simp)
    simp only [Memory.read]
    rw [if_neg (by omega)]
    exact ih fun c hc => h c (List.mem_cons_of_mem _ hc)

theorem Memory.read_write_ne (m : Memory) {a b : Nat} (v : Byte) (h : b ≠ a) : (m.write a v).read b = m.read b := by
  induction m with
  | nil => simp only [Memory.write]; split <;> simp [Memory.read, Ne.symm h]
  | cons e rest ih =>
    obtain ⟨k, w⟩ := e
    simp only [Memory.write]
    split
    · split <;> simp [Memory.read, Ne.symm h]
    · split
      · next hk => subst hk; split <;> simp [Memory.read, Ne.symm h]
      · simp only [Memory.read, ih]

theorem Memory.read_write_self (m : Memory) (a : Nat) (v : Byte) (h : m.wf = true) : (m.write a v).read a = v := by
  induction m with
  | nil => simp only [Memory.write]; split <;> simp_all [Memory.read]
  | cons e rest ih =>
    obtain ⟨k, w⟩ := e
    rw [Memory.wf_cons] at h
    simp only [Memory.write]
    split
    · next hk =>
      split
      · next hv => rw [hv]; exact Memory.read_below fun c hc => by
                    rcases List.mem_cons.1 hc with e | e
                    · rw [e]; exact hk
                    · exact Nat.lt_trans hk (h.2.1 c e)
      · simp [Memory.read]
    · split
      · next hk =>
        split
        · next hv => rw [hv, hk]; exact Memory.read_below h.2.1
        · simp [Memory.read]
      · next h1 h2 => simp only [Memory.read]; rw [if_neg (by omega)]; exact ih h.2.2

/-- A write lists no address but the old ones and its own. -/
theorem Memory.mem_write {m : Memory} {a : Nat} {v : Byte} {c : Host.Cell} (h : c ∈ m.write a v) : c ∈ m ∨ c.1 = a := by
  induction m with
  | nil => simp only [Memory.write] at h; split at h <;> simp_all
  | cons e rest ih =>
    obtain ⟨k, w⟩ := e
    simp only [Memory.write] at h
    split at h
    · split at h
      · exact .inl h
      · rcases List.mem_cons.1 h with e | e
        · exact .inr (by rw [e])
        · exact .inl e
    · split at h
      · split at h
        · exact .inl (List.mem_cons_of_mem _ h)
        · rcases List.mem_cons.1 h with e | e
          · exact .inr (by rw [e])
          · exact .inl (List.mem_cons_of_mem _ e)
      · rcases List.mem_cons.1 h with e | e
        · exact .inl (by rw [e]; simp)
        · rcases ih e with e | e
          · exact .inl (List.mem_cons_of_mem _ e)
          · exact .inr e

theorem Memory.write_wf {m : Memory} (a : Nat) (v : Byte) (h : m.wf = true) : (m.write a v).wf = true := by
  induction m with
  | nil => simp only [Memory.write]; split
           · rfl
           · next hv => rw [Memory.wf_cons]; exact ⟨hv, by simp, rfl⟩
  | cons e rest ih =>
    obtain ⟨k, w⟩ := e
    have h' := Memory.wf_cons.1 h
    simp only [Memory.write]
    split
    · next hk =>
      split
      · exact h
      · next hv =>
        refine Memory.wf_cons.2 ⟨hv, fun c hc => ?_, h⟩
        rcases List.mem_cons.1 hc with e | e
        · rw [e]; exact hk
        · exact Nat.lt_trans hk (h'.2.1 c e)
    · split
      · next hk =>
        split
        · exact h'.2.2
        · next hv => exact Memory.wf_cons.2 ⟨hv, by rw [hk]; exact h'.2.1, h'.2.2⟩
      · next h1 h2 =>
        refine Memory.wf_cons.2 ⟨h'.1, fun c hc => ?_, ih h'.2.2⟩
        rcases Memory.mem_write hc with e | e
        · exact h'.2.1 c e
        · rw [e]; omega

/-! ### Bytes at consecutive addresses -/

theorem Memory.writeBytes_wf {m : Memory} (a : Nat) (bytes : List Byte) (h : m.wf = true) :
    (m.writeBytes a bytes).wf = true := by
  induction bytes generalizing m a with
  | nil => exact h
  | cons b rest ih => exact ih _ (Memory.write_wf _ _ h)

theorem Memory.read_writeBytes_outside (m : Memory) {a b : Nat} (bytes : List Byte) (h : b < a ∨ a + bytes.length ≤ b) :
    (m.writeBytes a bytes).read b = m.read b := by
  induction bytes generalizing m a with
  | nil => rfl
  | cons x rest ih =>
    simp only [List.length_cons] at h
    simp only [Memory.writeBytes]
    rw [ih _ (by omega), Memory.read_write_ne _ _ (by omega)]

theorem Memory.read_writeBytes_inside {m : Memory} (h : m.wf = true) (a : Nat) (bytes : List Byte) (i : Nat)
    (hi : i < bytes.length) : (m.writeBytes a bytes).read (a + i) = bytes[i] := by
  induction bytes generalizing m a i with
  | nil => cases hi
  | cons x rest ih =>
    simp only [Memory.writeBytes]
    cases i with
    | zero =>
      rw [Memory.read_writeBytes_outside _ _ (by omega)]
      exact Memory.read_write_self m a x h
    | succ i =>
      have := ih (Memory.write_wf a x h) (a + 1) i (by simpa using hi)
      rw [show a + (i + 1) = a + 1 + i by omega, this]; rfl

/-! ### Chains (R28) -/

theorem Memory.writeChain_wf {m : Memory} (chain : List Nat) (bytes : List Byte) (h : m.wf = true) :
    (m.writeChain chain bytes).wf = true := by
  induction chain generalizing m bytes with
  | nil => exact h
  | cons c rest ih => exact ih _ (Memory.writeBytes_wf _ _ h)

/-- Writing a chain changes no byte but those at the addresses of the payload's bytes. -/
theorem Memory.read_writeChain_outside (m : Memory) (chain : List Nat) (bytes : List Byte) {a : Nat}
    (h : ∀ i, i < bytes.length → storeAddress chain i ≠ some a) : (m.writeChain chain bytes).read a = m.read a := by
  induction chain generalizing m bytes with
  | nil => rfl
  | cons c rest ih =>
    simp only [Memory.writeChain, Config.cellSize]
    rw [ih]
    · refine Memory.read_writeBytes_outside m _ ?_
      rw [List.length_take]
      by_contra hc
      have hi : a - 64 * c < bytes.length := by omega
      refine h (a - 64 * c) hi ?_
      have h0 : (a - 64 * c) / 64 = 0 := by omega
      simp only [storeAddress, h0, List.getElem?_cons_zero, Option.map_some, Option.some.injEq]
      omega
    · intro i hi he
      rw [List.length_drop] at hi
      refine h (64 + i) (by omega) ?_
      have h1 : (64 + i) / 64 = i / 64 + 1 := by omega
      have h2 : (64 + i) % 64 = i % 64 := by omega
      simp only [storeAddress, h1, h2, List.getElem?_cons_succ] at *
      exact he

theorem Memory.readBytes_eq {m : Memory} {a : Nat} {bytes : List Byte}
    (h : ∀ i (hi : i < bytes.length), m.read (a + i) = bytes[i]) : m.readBytes a bytes.length = bytes := by
  apply List.ext_getElem
  · simp [Memory.readBytes]
  · intro i h1 h2; simp [Memory.readBytes, h i h2]

theorem Memory.take_readBytes (m : Memory) (a n k : Nat) (h : k ≤ n) : (m.readBytes a n).take k = m.readBytes a k := by
  simp [Memory.readBytes, ← List.map_take, List.take_range, Nat.min_eq_left h]

/-- R28: the bytes read along a chain: as many as the chain's cells hold, each from its address. -/
theorem Memory.readChain_getElem? (m : Memory) (chain : List Nat) {length i : Nat} (hi : i < length)
    (hl : length ≤ 64 * chain.length) :
    ∃ a, storeAddress chain i = some a ∧ (m.readChain chain length)[i]? = some (m.read a) := by
  unfold Memory.readChain
  rw [List.getElem?_take, if_pos hi]
  replace hi : i < 64 * chain.length := Nat.lt_of_lt_of_le hi hl
  clear hl
  induction chain generalizing i with
  | nil => exact absurd hi (by simp)
  | cons c rest ih =>
    have hn : (m.readBytes (Config.cellSize * c) Config.cellSize).length = 64 := by simp [Memory.readBytes, Config.cellSize]
    rw [List.flatMap_cons]
    by_cases h : i < 64
    · refine ⟨64 * c + i, ?_, ?_⟩
      · simp [storeAddress, Nat.div_eq_of_lt h, Nat.mod_eq_of_lt h]
      · rw [List.getElem?_append_left (by omega)]; simp [Memory.readBytes, Config.cellSize, h]
    · obtain ⟨a, ha, hb⟩ := ih (i := i - 64) (by rw [List.length_cons] at hi; omega)
      refine ⟨a, ?_, by rw [List.getElem?_append_right (by omega), hn]; exact hb⟩
      rw [← ha]
      simp only [storeAddress, show i / 64 = (i - 64) / 64 + 1 by omega, show i % 64 = (i - 64) % 64 by omega,
        List.getElem?_cons_succ]

theorem Memory.readChain_length (m : Memory) {chain : List Nat} {length : Nat} (hl : length ≤ 64 * chain.length) :
    (m.readChain chain length).length = length := by
  unfold Memory.readChain
  rw [List.length_take, List.length_flatMap]
  simpa [Memory.readBytes, Config.cellSize, Nat.mul_comm] using hl

/-- A payload written along a chain of distinct cells is read back along it. -/
theorem Memory.readChain_writeChain {m : Memory} (h : m.wf = true) (chain : List Nat) (bytes : List Byte)
    (hd : chain.Nodup) (hl : chain.length = (bytes.length + 63) / 64) :
    (m.writeChain chain bytes).readChain chain bytes.length = bytes := by
  induction chain generalizing m bytes with
  | nil =>
    have : bytes.length = 0 := by simp only [List.length_nil] at hl; omega
    simp [Memory.readChain, List.length_eq_zero_iff.1 this]
  | cons c rest ih =>
    simp only [List.length_cons] at hl
    simp only [List.nodup_cons] at hd
    have hpos : 0 < bytes.length := by omega
    have hw := Memory.writeBytes_wf (m := m) (64 * c) (bytes.take 64) h
    have hrest := ih hw (bytes.drop 64) hd.2 (by rw [List.length_drop]; omega)
    have hother : ∀ a, (64 * c ≤ a ∧ a < 64 * c + 64) →
        ((m.writeBytes (64 * c) (bytes.take 64)).writeChain rest (bytes.drop 64)).read a =
          (m.writeBytes (64 * c) (bytes.take 64)).read a := by
      intro a ha
      refine Memory.read_writeChain_outside _ _ _ fun i _ he => ?_
      simp only [storeAddress] at he
      cases hg : rest[i / 64]? with
      | none => rw [hg] at he; cases he
      | some d =>
        rw [hg] at he
        simp only [Option.map_some, Option.some.injEq] at he
        have : d = c := by omega
        exact hd.1 (this ▸ List.mem_of_getElem? hg)
    have hfirst : ((m.writeBytes (64 * c) (bytes.take 64)).writeChain rest (bytes.drop 64)).readBytes (64 * c)
        (bytes.take 64).length = bytes.take 64 := by
      refine Memory.readBytes_eq fun i hi => ?_
      rw [hother _ (by rw [List.length_take] at hi; omega)]
      exact Memory.read_writeBytes_inside h _ _ i hi
    simp only [Memory.writeChain, Config.cellSize]
    unfold Memory.readChain at hrest ⊢
    simp only [Config.cellSize] at hrest ⊢
    rw [List.flatMap_cons, List.take_append]
    have hlen : (((m.writeBytes (64 * c) (bytes.take 64)).writeChain rest (bytes.drop 64)).readBytes (64 * c) 64).length = 64 := by
      simp [Memory.readBytes]
    rw [hlen]
    by_cases h64 : bytes.length ≤ 64
    · have ht : bytes.take 64 = bytes := List.take_of_length_le h64
      rw [Memory.take_readBytes _ _ _ _ h64, show bytes.length - 64 = 0 by omega, List.take_zero, List.append_nil]
      rw [ht] at hfirst ⊢
      exact hfirst
    · rw [List.take_of_length_le (by rw [hlen]; omega)]
      rw [List.length_drop] at hrest
      rw [hrest]
      have : (bytes.take 64).length = 64 := by rw [List.length_take]; omega
      rw [this] at hfirst
      rw [hfirst, List.take_append_drop]

/-- The memory after reset has the canonical form. -/
theorem State.reset_cells_wf : State.reset.cells.wf = true := rfl

end Sys2Proof.Machine
end

