-- ==== Sys2Proof/Laws/Feed.lean ====
section
/-!
SUPPORT. What the feed receiver does with the bytes since a start marker (R40 to R50), and with a frame's end (R50, R51, R57).
-/

namespace Sys2Proof.Machine

variable {s : State} {symbols : List LaneSymbol} {bytes : List Byte} {damaged : Bool}

/-! ### Headers -/

/-- R40, R41: bytes that come while a header is awaited join those since the start marker. -/
theorem State.execFeedHeader_ready (h : s.Ready) (hb : s.sinceStart symbols = some (bytes, damaged)) :
    execFeedHeader symbols s = .next ((s.drawFree (undecodedIn symbols)).takeHeader bytes damaged) := by
  unfold execFeedHeader
  rw [State.onInput_ready _ h]
  unfold State.sinceStart at hb
  split at hb
  · next e => obtain ⟨rfl, rfl⟩ := Prod.mk.inj (Option.some.inj hb); simp only [e]
  · next e => obtain ⟨rfl, rfl⟩ := Prod.mk.inj (Option.some.inj hb); simp only [e]
  all_goals cases hb

theorem State.takeHeader_short (h : bytes.length < 6) : s.takeHeader bytes damaged = s.setFeedRx (.header bytes damaged) :=
  if_pos h

theorem State.takeHeader_malformed (h : 6 ≤ bytes.length) (hm : (headerOf bytes).MalformedOnFeed) :
    s.takeHeader bytes damaged = s.countFeedMalformed.setFeedRx (.skipping (bytes.length - 6)) := by
  unfold State.takeHeader
  simp only [show ¬ bytes.length < 6 by omega, if_false, (feedKind_eq_none _).2 hm, List.length_drop]

theorem State.takeHeader_staged (h : 6 ≤ bytes.length) (hm : ¬ (headerOf bytes).MalformedOnFeed)
    (hk : (headerOf bytes).kind ≠ 0x01#8) :
    s.takeHeader bytes damaged =
      s.setFeedRx (.staging (headerOf bytes) (bytes.drop 6) (checkBytes checkInitial (bytes.take 6)) damaged) := by
  unfold State.takeHeader
  simp only [show ¬ bytes.length < 6 by omega, if_false, feedKind_staged hm hk]

theorem State.takeHeader_data {t : Tag} (h : 6 ≤ bytes.length) (hm : ¬ (headerOf bytes).MalformedOnFeed)
    (hk : (headerOf bytes).kind = 0x01#8) (ht : t.number = (headerOf bytes).tag.toNat) :
    s.takeHeader bytes damaged =
      s.takeData t (headerOf bytes).length.toNat (bytes.drop 6) (checkBytes checkInitial (bytes.take 6)) damaged := by
  unfold State.takeHeader
  simp only [show ¬ bytes.length < 6 by omega, if_false, feedKind_data hm hk ht]

/-! ### Frame ends -/

variable {record : FrameRecord} {received : List Byte} {running : CheckWord}

/-- R50, R51: the end of a frame in STORING. -/
theorem State.execDataFrameEnd_ready (h : s.Ready) (hf : s.feedRx = .storing record received running damaged) :
    execDataFrameEnd symbols s = .next ((((s.drawFree (undecodedIn symbols)).storeBytes record
        (framePayload record.length (received ++ s.arrived symbols))).endData record
      (frameVerdict running (damaged || undecodedIn symbols != 0) record.length (received ++ s.arrived symbols))).setFeedRx
        .awaitStart) := by
  unfold execDataFrameEnd
  rw [State.onInput_ready _ h]
  simp only [hf]

/-- R51: the decision at a frame's end writes no cell. -/
theorem State.endData_cells (verdict : FrameVerdict) : (s.endData record verdict).cells = s.cells := by
  cases verdict
  · show (s.returnReservation record).cells = s.cells; simp
  · show (s.returnReservation record).cells = s.cells; simp
  · unfold State.endData
    dsimp only
    split <;> simp

/-- R57: an undamaged frame that ends in STAGING hands its payload on. -/
theorem State.endStaged_good {kind : Byte} {payload : List Byte} (h : s.StagedFrame kind symbols payload) (mnemonic : String)
    (handOn : List Byte → State → State) :
    s.endStaged kind mnemonic symbols handOn = .next (handOn payload (s.setFeedRx .awaitStart)) := by
  obtain ⟨hr, header, received, running, hf, hk, hl, hb⟩ := h
  obtain ⟨hu, hv⟩ := goodBytes_split hb s.freeCount
  unfold State.endStaged
  rw [State.onInput_ready _ hr]
  simp only [hf, hk, if_true, hu, State.arrived, hv, bne_self_eq_false, Bool.or_false,
    frameVerdict_goodBytes running payload _ hl, framePayload_goodBytes running payload _ hl, State.drawFree_zero]

end Sys2Proof.Machine
end

