-- ==== Sys2Proof/WellFormed.lean ====
section
/-!
DEFINITION. Which commands the links can carry: the operands of the "good" frames of the drain link must be ones that
R121 and R175 pass. Everything else is well formed whatever its operands.
-/

namespace Sys2Proof

/-- R121, R175: a good ACK or REPLAY has TAG 0 to 254, and a good NOTE has at most 64 payload bytes. -/
def Instr.wellFormed : Instr → Bool
  | .ack _ fields => fields.drainTag != 255#8
  | .replay _ fields => fields.drainTag != 255#8
  | .consumerNote _ fields => fields.payload.length ≤ 64
  | .powerUp _ => true
  | .resetNLow _ => true
  | .deviceReset _ => true
  | .feedHeader _ => true
  | .dataFrameEnd _ => true
  | .feedFrameCutShort _ _ => true
  | .feedFrameIgnored _ => true
  | .requestArrival _ => true
  | .producerNote _ => true
  | .producerNoteTaken _ => true
  | .hold _ => true
  | .resume _ => true
  | .consumerNoteTaken _ => true
  | .drainFrameDropped _ _ => true
  | .returnFrameDiscarded _ => true
  | .timerExpiry _ => true
  | .carrierPresent => true
  | .carrierAbsent => true
  | .carrierSettled => true
  | .dataTransmissionStart => true
  | .dataTransmissionComplete => true
  | .forwardNoteStart => true
  | .forwardNoteComplete => true
  | .drainIndicationStart => true
  | .drainIndicationComplete => true
  | .flowFrameStart => true
  | .feedIndicationStart => true
  | .responseStart => true
  | .backNoteStart => true
  | .eventFrameStart => true
  | .responseComplete _ => true
  | .backNoteComplete => true
  | .feedFrameComplete => true
  | .identify => true
  | .readSettings => true
  | .writeSettings => true
  | .readStream => true
  | .writeStream => true
  | .openStream => true
  | .closeStreamDrain => true
  | .closeStreamDiscard => true
  | .flushStream => true
  | .restartStream => true
  | .readCounters => true
  | .clearNote => true
  | .discardAll => true
  | .resetDevice => true
  | .unknownCommand => true
  | .tick => true
  | .skippingFrameEnd _ => true

end Sys2Proof
end

