-- ==== Sys2Proof/Laws/PerInstr.lean ====
section
/-!
SUPPORT. Statements about every command as syntax, one lemma for each constructor.
-/

namespace Sys2Proof.Laws

/-- Only a frame from the consumer can be ill formed: every other command is well formed whatever its operands (R121, R175). -/
def Origins.Statement (i : Instr) : Prop := i.wellFormed = false → i.origin = .drainLink

theorem Origins.powerUp (resetNHigh : Bool) : Origins.Statement (.powerUp resetNHigh) := fun h => nomatch h
theorem Origins.resetNLow (pulse : PulseLength) : Origins.Statement (.resetNLow pulse) := fun h => nomatch h
theorem Origins.deviceReset (straps : Straps) : Origins.Statement (.deviceReset straps) := fun h => nomatch h
theorem Origins.feedHeader (symbols : List LaneSymbol) : Origins.Statement (.feedHeader symbols) := fun h => nomatch h
theorem Origins.dataFrameEnd (symbols : List LaneSymbol) : Origins.Statement (.dataFrameEnd symbols) := fun h => nomatch h
theorem Origins.feedFrameCutShort (marker : Marker) (symbols : List LaneSymbol) : Origins.Statement (.feedFrameCutShort marker symbols) := fun h => nomatch h
theorem Origins.feedFrameIgnored (symbols : List LaneSymbol) : Origins.Statement (.feedFrameIgnored symbols) := fun h => nomatch h
theorem Origins.requestArrival (symbols : List LaneSymbol) : Origins.Statement (.requestArrival symbols) := fun h => nomatch h
theorem Origins.producerNote (symbols : List LaneSymbol) : Origins.Statement (.producerNote symbols) := fun h => nomatch h
theorem Origins.producerNoteTaken (symbols : List LaneSymbol) : Origins.Statement (.producerNoteTaken symbols) := fun h => nomatch h
theorem Origins.ack (part : FramePart) (fields : ReturnFields) : Origins.Statement (.ack part fields) := fun _ => rfl
theorem Origins.replay (part : FramePart) (fields : ReturnFields) : Origins.Statement (.replay part fields) := fun _ => rfl
theorem Origins.hold (frame : FramePart × ReturnFields) : Origins.Statement (.hold frame) := fun _ => rfl
theorem Origins.resume (frame : FramePart × ReturnFields) : Origins.Statement (.resume frame) := fun _ => rfl
theorem Origins.consumerNote (part : FramePart) (fields : NoteFields) : Origins.Statement (.consumerNote part fields) := fun _ => rfl
theorem Origins.consumerNoteTaken (frame : FramePart × NoteTakenFields) : Origins.Statement (.consumerNoteTaken frame) := fun _ => rfl
theorem Origins.drainFrameDropped (extent : Extent) (symbols : List LaneSymbol) : Origins.Statement (.drainFrameDropped extent symbols) := fun _ => rfl
theorem Origins.returnFrameDiscarded (portion : Portion) : Origins.Statement (.returnFrameDiscarded portion) := fun _ => rfl
theorem Origins.timerExpiry (stream : Tag) : Origins.Statement (.timerExpiry stream) := fun h => nomatch h
theorem Origins.carrierPresent : Origins.Statement .carrierPresent := fun h => nomatch h
theorem Origins.carrierAbsent : Origins.Statement .carrierAbsent := fun h => nomatch h
theorem Origins.carrierSettled : Origins.Statement .carrierSettled := fun h => nomatch h
theorem Origins.dataTransmissionStart : Origins.Statement .dataTransmissionStart := fun h => nomatch h
theorem Origins.dataTransmissionComplete : Origins.Statement .dataTransmissionComplete := fun h => nomatch h
theorem Origins.forwardNoteStart : Origins.Statement .forwardNoteStart := fun h => nomatch h
theorem Origins.forwardNoteComplete : Origins.Statement .forwardNoteComplete := fun h => nomatch h
theorem Origins.drainIndicationStart : Origins.Statement .drainIndicationStart := fun h => nomatch h
theorem Origins.drainIndicationComplete : Origins.Statement .drainIndicationComplete := fun h => nomatch h
theorem Origins.flowFrameStart : Origins.Statement .flowFrameStart := fun h => nomatch h
theorem Origins.feedIndicationStart : Origins.Statement .feedIndicationStart := fun h => nomatch h
theorem Origins.responseStart : Origins.Statement .responseStart := fun h => nomatch h
theorem Origins.backNoteStart : Origins.Statement .backNoteStart := fun h => nomatch h
theorem Origins.eventFrameStart : Origins.Statement .eventFrameStart := fun h => nomatch h
theorem Origins.responseComplete (straps : Straps) : Origins.Statement (.responseComplete straps) := fun h => nomatch h
theorem Origins.backNoteComplete : Origins.Statement .backNoteComplete := fun h => nomatch h
theorem Origins.feedFrameComplete : Origins.Statement .feedFrameComplete := fun h => nomatch h
theorem Origins.identify : Origins.Statement .identify := fun h => nomatch h
theorem Origins.readSettings : Origins.Statement .readSettings := fun h => nomatch h
theorem Origins.writeSettings : Origins.Statement .writeSettings := fun h => nomatch h
theorem Origins.readStream : Origins.Statement .readStream := fun h => nomatch h
theorem Origins.writeStream : Origins.Statement .writeStream := fun h => nomatch h
theorem Origins.openStream : Origins.Statement .openStream := fun h => nomatch h
theorem Origins.closeStreamDrain : Origins.Statement .closeStreamDrain := fun h => nomatch h
theorem Origins.closeStreamDiscard : Origins.Statement .closeStreamDiscard := fun h => nomatch h
theorem Origins.flushStream : Origins.Statement .flushStream := fun h => nomatch h
theorem Origins.restartStream : Origins.Statement .restartStream := fun h => nomatch h
theorem Origins.readCounters : Origins.Statement .readCounters := fun h => nomatch h
theorem Origins.clearNote : Origins.Statement .clearNote := fun h => nomatch h
theorem Origins.discardAll : Origins.Statement .discardAll := fun h => nomatch h
theorem Origins.resetDevice : Origins.Statement .resetDevice := fun h => nomatch h
theorem Origins.unknownCommand : Origins.Statement .unknownCommand := fun h => nomatch h
theorem Origins.tick : Origins.Statement .tick := fun h => nomatch h
theorem Origins.skippingFrameEnd (symbols : List LaneSymbol) : Origins.Statement (.skippingFrameEnd symbols) := fun h => nomatch h

end Sys2Proof.Laws
end

