-- ==== Sys2Proof/Laws/Release.lean ====
section
/-!
SUPPORT. What a release step does to its stream, the pool and the events (R80, R81), once for ACK, REPLAY and FLUSH-STREAM.
-/

namespace Sys2Proof.Machine

/-- The step from s to m is the release of the first k frames of stream t, before anything is evaluated; `after` is the stream's
record as the step has set its other fields. -/
structure Released (s m : State) (t : Tag) (k : Nat) (after : Stream) : Prop where
  frame : m = { s.release t k with streams := m.streams }
  self : m.stream t = { after with
    queue := (s.stream t).queue.drop k, occupancy := (s.stream t).occupancy - cellsOf ((s.stream t).queue.take k) }
  others : ∀ v, v ≠ t → m.stream v = s.stream v
  state : after.state = (s.stream t).state
  config : after.config = (s.stream t).config
  flow : after.flow = (s.stream t).flow

variable {s m : State} {t : Tag} {k : Nat} {after : Stream}

theorem Released.settings (h : Released s m t k after) : m.settings = s.settings := by rw [h.frame]; simp
theorem Released.events (h : Released s m t k after) : m.events = s.events := by rw [h.frame]; simp
theorem Released.level (h : Released s m t k after) : m.pool.level = s.pool.level := by rw [h.frame]; simp
theorem Released.drainMap (h : Released s m t k after) : m.drainMap = s.drainMap := by rw [h.frame]; simp
theorem Released.mapped (h : Released s m t k after) (d : DrainTag) : m.mapped d = s.mapped d := by
  unfold State.mapped; simp only [h.drainMap]
theorem Released.releasedTo (h : Released s m t k after) {u : State} (hp : u.pool.freeCells = m.pool.freeCells)
    (hr : u.pool.freeRecords = m.pool.freeRecords) (hd : u.drainTx = m.drainTx) :
    ReleasedTo s u ((s.stream t).queue.take k) := by
  unfold ReleasedTo
  rw [hp, hr, hd, h.frame]
  exact releasedTo_release s t k

theorem ReleasedTo.congr {u v : State} {gone : List FrameRecord} (h : ReleasedTo s u gone)
    (hp : v.pool.freeCells = u.pool.freeCells) (hr : v.pool.freeRecords = u.pool.freeRecords) (hd : v.drainTx = u.drainTx) :
    ReleasedTo s v gone := by
  unfold ReleasedTo at *; rw [hp, hr, hd]; exact h

/-- A release keeps every field but streams, pool and the mark of the frame in transmission. -/
theorem Released.rest (h : Released s m t k after) :
    m = { s with streams := m.streams, pool := m.pool, drainTx := m.drainTx } := by
  rw [h.frame]; apply State.ext <;> simp

/-- R82, R83, R85: every resident frame released and the four pointers brought to one serial. -/
theorem State.released_emptied (s : State) (t : Tag) (f : Stream → Serial) (hf : ∀ x o h q, f { x with
    queue := q, occupancy := o, head := h } = f x) :
    Released s ((s.releaseAll t).updateStream t fun y => y.collapse (f y)) t (s.stream t).queue.length
      ((s.stream t).collapse (f (s.stream t))) := by
  refine ⟨?_, ?_, ?_, rfl, rfl, rfl⟩
  · apply State.ext <;> rfl
  · rw [State.stream_updateStream_self, State.releaseAll, State.stream_release, if_pos rfl, hf]; rfl
  · intro v hv; rw [State.stream_updateStream_ne _ _ hv, State.releaseAll, State.stream_release, if_neg hv]

/-- R80, R81: a release step with its evaluations. -/
theorem Released.finish (h : Released s m t k after) (hc : (s.stream t).state ≠ .closed) (o : CloseOutcome) :
    ReleaseStep s (m.finishRelease t o (s.stream t).occupancy s.pool.freeCells.length) t k after o.detail := by
  have hself := h.self
  have hrest := h.rest
  refine ⟨?_, ?_, ?_, ?_⟩
  · apply h.releasedTo <;> simp [State.finishRelease]
  · intro v hv
    simp only [State.finishRelease, State.stream_evaluatePoolFrom, State.stream_evaluateFlowFrom_ne _ _ hv]
    unfold State.closeIfDrained
    split
    · rw [State.stream_closeDrained, if_neg hv, h.others v hv]
    · exact h.others v hv
  · have hst : (m.stream t).state = (s.stream t).state := by rw [hself]; exact h.state
    have hq : (m.stream t).queue = (s.stream t).queue.drop k := by rw [hself]
    split
    · next hd =>
      have hcl : m.closeIfDrained t o = m.closeDrained t o := by
        unfold State.closeIfDrained; rw [if_pos]; rw [hst, hq]; exact hd
      have hev : (m.closeDrained t o).events =
          s.settings.record s.events (closedRecord t (s.stream t) after.tail o.detail) := by
        rw [State.closeDrained_events, h.settings, h.events, hself]
        simp only [h.config]; rfl
      refine ⟨?_, ?_, ?_, ?_⟩
      · simp only [State.finishRelease, State.stream_evaluatePoolFrom, hcl, State.stream_evaluateFlowFrom]
        rw [if_neg (by simp [State.stream_closeDrained, Stream.closing]), State.stream_closeDrained, if_pos rfl, hself]
        rfl
      · simp only [State.finishRelease, State.mapped_evaluatePoolFrom, State.mapped_evaluateFlowFrom, hcl]
        rw [State.mapped_closeDrained, hself]; simp [h.config]
      · intro c hcc
        simp only [State.finishRelease, State.mapped_evaluatePoolFrom, State.mapped_evaluateFlowFrom, hcl]
        rw [State.mapped_closeDrained, hself]; simp [h.config, hcc, h.mapped]
      · have := @poolFollows_evaluatePoolFrom s ((m.closeDrained t o).evaluateFlowFrom t (s.stream t).occupancy)
          (by simp [h.settings]) (by simp [h.level])
        rw [State.evaluateFlowFrom_events, hev] at this
        simp only [State.finishRelease, hcl]
        exact this
    · next hd =>
      have hcl : m.closeIfDrained t o = m := by
        unfold State.closeIfDrained; rw [if_neg]; rw [hst, hq]; exact hd
      refine ⟨?_, ?_, ?_⟩
      · simp only [State.finishRelease, State.stream_evaluatePoolFrom, hcl, State.stream_evaluateFlowFrom]
        rw [hself, Stream.flowAt_eq]
        by_cases ho : (s.stream t).occupancy - cellsOf ((s.stream t).queue.take k) = (s.stream t).occupancy
        · rw [if_neg (by simp [ho]), if_pos ho, ← h.flow]
        · rw [if_pos (by simp [ho, h.state, hc]), if_neg ho]; simp only [h.flow, h.config]
      · simp [State.finishRelease, hcl, h.drainMap]
      · have := @poolFollows_evaluatePoolFrom s (m.evaluateFlowFrom t (s.stream t).occupancy)
          (by simp [h.settings]) (by simp [h.level])
        rw [State.evaluateFlowFrom_events, h.events] at this
        simp only [State.finishRelease, hcl]
        exact this
  · simp only [State.finishRelease]
    generalize hu : ((m.closeIfDrained t o).evaluateFlowFrom t (s.stream t).occupancy).evaluatePoolFrom
      s.pool.freeCells.length = u
    apply State.ext <;> (try rfl) <;> (rw [← hu]; simp) <;> (rw [hrest])

end Sys2Proof.Machine
end

