-- ==== Sys2Proof/Laws/Requests.lean ====
section
/-!
SUPPORT. What an effect step does (R147), once for every request: the slots it leaves, and the parameter bytes that the engine reads.
-/

namespace Sys2Proof.Machine

/-! ### Slots (R145, R147) -/

theorem executingRequest_append (answered : List Response) (r : Request) (rest : List Slot) :
    executingRequest (answered.map Slot.answering ++ .executing r :: rest) = some r := by
  induction answered with
  | nil => rfl
  | cons a as ih => simpa [executingRequest] using ih

theorem answerExecuting_append (answered : List Response) (r : Request) (rest : List Slot) (a : Response) :
    answerExecuting a (answered.map Slot.answering ++ .executing r :: rest) =
      answered.map Slot.answering ++ .answering a :: rest := by
  induction answered with
  | nil => rfl
  | cons b bs ih => simp [answerExecuting, ih]

theorem takeOldestQueued_append (answered : List Response) (rest : List Slot) :
    takeOldestQueued (answered.map Slot.answering ++ rest) = answered.map Slot.answering ++ takeOldestQueued rest := by
  induction answered with
  | nil => rfl
  | cons b bs ih => simp [takeOldestQueued, ih]

theorem any_isExecuting_queued (answered : List Response) (a : Response) (queued : List Request) :
    (answered.map Slot.answering ++ .answering a :: queued.map Slot.queued).any Slot.isExecuting = false := by
  simp [Slot.isExecuting, Function.comp_def]

/-- R147: the slots after an effect step. -/
theorem State.answer_eq {s : State} {r : Request} {answered : List Response} {queued : List Request}
    (h : s.slots = answered.map Slot.answering ++ .executing r :: queued.map Slot.queued) (status : Status)
    (result : List Byte) :
    s.answer r status result =
      { s with slots := answeredSlots answered (r.response status result) queued s.resetPending } := by
  unfold State.answer
  rw [h, answerExecuting_append]
  unfold State.engineTake
  simp only [any_isExecuting_queued, Bool.or_false]
  have ht : takeOldestQueued
      (answered.map Slot.answering ++ .answering (r.response status result) :: queued.map Slot.queued) =
      answeredSlots answered (r.response status result) queued false := by
    rw [takeOldestQueued_append]
    cases queued <;> simp [takeOldestQueued, answeredSlots]
  cases hp : s.resetPending
  · simp only [Bool.false_eq_true, if_false]
    rw [← ht]; rfl
  · simp only [if_true]
    cases queued <;> simp [answeredSlots, Request.response]

/-- R147: everything that an effect step does to a request that its row takes. -/
theorem State.effectStep_eq {s : State} {r : Request} {answered : List Response} {queued : List Request}
    (h : s.Executing r answered queued) (mnemonic : String) (takes : Request → Bool) (effect : Request → State → Answer)
    (ht : takes r = true) (hs : (effect r s).state.slots = s.slots) :
    s.effectStep mnemonic takes effect = .next { (effect r s).state with
      slots := answeredSlots answered (r.response (effect r s).status (effect r s).result) queued
        (effect r s).state.resetPending } := by
  unfold State.effectStep
  rw [State.besideOwed_quiet _ h.2.1]
  dsimp only
  rw [h.2.2, executingRequest_append]
  simp only [h.1, ht, and_self, if_true]
  rw [State.answer_eq (hs.trans h.2.2)]

/-! ### Parameter bytes (R173, R177, R180, R181) -/

theorem bigEndian_twoBytes (n : Nat) : bigEndian (BitVec.ofNat 8 (n / 256)) (BitVec.ofNat 8 n) = BitVec.ofNat 16 n := by
  apply BitVec.eq_of_getLsbD_eq
  intro i hi
  simp only [bigEndian, BitVec.getLsbD_append, BitVec.getLsbD_ofNat]
  split
  · simp [*]
  · next h =>
    simp only [show i - 8 < 8 by omega, hi, decide_true, Bool.true_and]
    rw [show (256 : Nat) = 2 ^ 8 from rfl, Nat.testBit_div_two_pow, Nat.sub_add_cancel (by omega)]

theorem twoBytes_bigEndian (a b : Byte) : twoBytes (bigEndian a b).toNat = [a, b] := by
  have ha := a.isLt
  have hb := b.isLt
  have h : (bigEndian a b).toNat = a.toNat * 256 + b.toNat := by
    simp only [bigEndian, BitVec.toNat_append]
    rw [← Nat.shiftLeft_add_eq_or_of_lt hb, Nat.shiftLeft_eq]
  simp only [twoBytes, h]
  congr 1
  · apply BitVec.eq_of_toNat_eq; simp; omega
  · congr 1; apply BitVec.eq_of_toNat_eq; simp; omega

/-- R173: a two-byte number is read as it was written. -/
theorem toNat_bigEndian_twoBytes {n : Nat} (h : n < 65536) :
    (bigEndian (BitVec.ofNat 8 (n / 256)) (BitVec.ofNat 8 n)).toNat = n := by
  rw [bigEndian_twoBytes]; simp; omega

/-- R177: a flag parameter is 00h or 01h. -/
theorem flagParameter_eq_some {p : List Byte} {b : Bool} :
    flagParameter? p = some b ↔ p = [if b then 0x01#8 else 0x00#8] := by
  unfold flagParameter?
  split
  · next x =>
    by_cases h0 : x = 0#8
    · subst h0; cases b <;> simp
    · by_cases h1 : x = 1#8
      · subst h1; cases b <;> simp
      · cases b <;> simp [h0, h1]
  · next h => constructor
              · intro e; cases e
              · intro e; exact absurd e (h _)

theorem flagParameter_eq_none {p : List Byte} : flagParameter? p = none ↔ ¬ (p = [0#8] ∨ p = [1#8]) := by
  rw [← not_iff_not, not_not, ← ne_eq, Option.ne_none_iff_exists']
  constructor
  · rintro ⟨b, h⟩; rw [flagParameter_eq_some] at h; cases b
    · exact .inl h
    · exact .inr h
  · rintro (h | h)
    · exact ⟨false, flagParameter_eq_some.2 h⟩
    · exact ⟨true, flagParameter_eq_some.2 h⟩

/-- R177: an optional serial has two bytes that spell a number below 4,096, or none. -/
theorem optionalSerial_eq_some {p : List Byte} {o : Option Serial} : optionalSerial? p = some o ↔
    (o = none ∧ p = []) ∨ ∃ x : Serial, o = some x ∧ p = twoBytes x.toNat := by
  constructor
  · intro h
    unfold optionalSerial? at h
    split at h
    · cases h; exact .inl ⟨rfl, rfl⟩
    · next high low =>
      split at h
      · next hlt =>
        cases h
        refine .inr ⟨_, rfl, ?_⟩
        rw [BitVec.toNat_ofNat, Nat.mod_eq_of_lt hlt, twoBytes_bigEndian]
      · cases h
    · cases h
  · rintro (⟨rfl, rfl⟩ | ⟨x, rfl, rfl⟩)
    · rfl
    · have hx := x.isLt
      unfold twoBytes optionalSerial?
      simp only [toNat_bigEndian_twoBytes (show x.toNat < 65536 by omega)]
      rw [if_pos (by omega)]
      congr 2; apply BitVec.eq_of_toNat_eq; simp

theorem optionalSerial_eq_none {p : List Byte} :
    optionalSerial? p = none ↔ ¬ (p = [] ∨ ∃ n, n < 4096 ∧ p = twoBytes n) := by
  rw [← not_iff_not, not_not, ← ne_eq, Option.ne_none_iff_exists']
  constructor
  · rintro ⟨o, h⟩
    rcases optionalSerial_eq_some.1 h with ⟨-, h⟩ | ⟨x, -, h⟩
    · exact .inl h
    · exact .inr ⟨_, x.isLt, h⟩
  · rintro (h | ⟨n, hn, h⟩)
    · exact ⟨_, optionalSerial_eq_some.2 (.inl ⟨rfl, h⟩)⟩
    · refine ⟨_, optionalSerial_eq_some.2 (.inr ⟨BitVec.ofNat 12 n, rfl, ?_⟩)⟩
      rw [h, BitVec.toNat_ofNat, Nat.mod_eq_of_lt (by omega)]

/-- R2: the test of a configuration is the conditions as the rule words them. -/
theorem StreamConfig.inRange_iff (c : StreamConfig) : c.inRange = true ↔ c.Valid := by
  have h1 := c.drainTag.isLt
  have h2 := c.streamClass.isLt
  unfold StreamConfig.inRange StreamConfig.Valid configInRange
  simp only [Bool.and_eq_true, decide_eq_true_eq]
  omega

/-- R180: the configuration block. -/
theorem configBlock_eq_some {p : List Byte} {c : StreamConfig} : configBlock? p = some c ↔ c.Valid ∧ p = c.block := by
  constructor
  · intro h
    unfold configBlock? at h
    split at h
    · next drainTag streamClass w1 w0 a1 a0 budget h1 h0 l1 l0 c1 c0 =>
      unfold configFrom? at h
      split at h
      · cases h
      · next hr =>
        split at h
        · next hd =>
          cases h
          refine ⟨(StreamConfig.inRange_iff _).1 (by unfold StreamConfig.inRange; simpa using hr), ?_⟩
          simp [StreamConfig.block, twoBytes_bigEndian]
        · cases h
    · cases h
  · rintro ⟨hv, rfl⟩
    have hr := (StreamConfig.inRange_iff c).2 hv
    obtain ⟨-, h1, -, h2, h3, -, h4, h5, -, h6, -, -⟩ := hv
    have hd := c.drainTag.isLt
    have hc := c.streamClass.isLt
    simp only [StreamConfig.block, twoBytes, List.cons_append, List.nil_append, configBlock?,
      toNat_bigEndian_twoBytes (show c.window < 65536 by omega), toNat_bigEndian_twoBytes (show c.ackTimeout < 65536 by omega),
      toNat_bigEndian_twoBytes (show c.highWatermark < 65536 by omega),
      toNat_bigEndian_twoBytes (show c.lowWatermark < 65536 by omega),
      toNat_bigEndian_twoBytes (show c.cellLimit < 65536 by omega), BitVec.toNat_ofNat,
      Nat.mod_eq_of_lt (show c.drainTag.val < 2 ^ 8 by omega), Nat.mod_eq_of_lt (show c.streamClass.val < 2 ^ 8 by omega),
      Nat.mod_eq_of_lt (show c.replayBudget < 2 ^ 8 by omega)]
    unfold configFrom?
    rw [if_neg (by unfold StreamConfig.inRange at hr; simp [hr]), dif_pos ⟨hd, hc⟩]

/-- R153: the test of a settings record is the conditions as the rules word them. -/
theorem settingsInRange_iff (x : Settings) : settingsInRange x = true ↔ x.Valid := by
  unfold settingsInRange Settings.Valid Settings.enables
  simp only [Bool.and_eq_true, decide_eq_true_eq, EventKind.maskBit, and_assoc]

/-- R181: the settings record. -/
theorem settingsRecord_eq_some {p : List Byte} {x : Settings} : settingsRecord? p = some x ↔ x.Valid ∧ p = x.layout := by
  constructor
  · intro h
    unfold settingsRecord? at h
    split at h
    · simp only at h
      split at h
      · next hr =>
        cases h
        refine ⟨(settingsInRange_iff _).1 hr, ?_⟩
        simp [Settings.layout, twoBytes_bigEndian]
      · cases h
    · cases h
  · rintro ⟨hv, rfl⟩
    have hr := (settingsInRange_iff x).2 hv
    obtain ⟨h1, h2, ⟨-, h3⟩, ⟨-, h4⟩, ⟨-, h5⟩, -, -, -, h6⟩ := hv
    have hm : bigEndian (BitVec.ofNat 8 (x.eventMask.toNat / 256)) (BitVec.ofNat 8 x.eventMask.toNat) = x.eventMask := by
      rw [bigEndian_twoBytes]; simp
    simp only [Settings.layout, twoBytes, List.cons_append, List.nil_append, settingsRecord?, hm,
      toNat_bigEndian_twoBytes (show x.reserve < 65536 by omega), toNat_bigEndian_twoBytes (show x.hysteresis < 65536 by omega),
      BitVec.toNat_ofNat, Nat.mod_eq_of_lt (show x.weights.class1 < 2 ^ 8 by omega),
      Nat.mod_eq_of_lt (show x.weights.class2 < 2 ^ 8 by omega), Nat.mod_eq_of_lt (show x.weights.class3 < 2 ^ 8 by omega),
      Nat.mod_eq_of_lt (show x.settleTime < 2 ^ 8 by omega)]
    rw [if_pos hr]

theorem fieldBytes_eq (x : BitVec 16) : fieldBytes x = twoBytes x.toNat := by
  have e0 : x.extractLsb' 8 8 = BitVec.ofNat 8 (x.toNat / 256) := by
    apply BitVec.eq_of_toNat_eq; simp [Nat.shiftRight_eq_div_pow]
  have e1 : x.extractLsb' 0 8 = BitVec.ofNat 8 x.toNat := by apply BitVec.eq_of_toNat_eq; simp
  unfold fieldBytes twoBytes; rw [e0, e1]

theorem numberBytes_eq (n : Nat) : numberBytes n = twoBytes n := by
  have e0 : BitVec.ofNat 8 ((BitVec.ofNat 16 n).toNat / 256) = BitVec.ofNat 8 (n / 256) := by
    apply BitVec.eq_of_toNat_eq; simp; omega
  have e1 : BitVec.ofNat 8 (BitVec.ofNat 16 n).toNat = BitVec.ofNat 8 n := by
    apply BitVec.eq_of_toNat_eq; simp
  unfold numberBytes; rw [fieldBytes_eq]; unfold twoBytes; rw [e0, e1]

theorem serialBytes_eq (x : Serial) : serialBytes x = twoBytes x.toNat := by
  unfold serialBytes; rw [fieldBytes_eq]
  rw [show (Serial.field x).toNat = x.toNat from by
    simp only [Serial.field, BitVec.toNat_setWidth]; exact Nat.mod_eq_of_lt (by have := x.isLt; omega)]

theorem counterBytes_eq (c : Counter) : counterBytes c = fourBytes c := by
  have e3 : c.extractLsb' 24 8 = BitVec.ofNat 8 (c.toNat / 16777216) := by
    apply BitVec.eq_of_toNat_eq; simp [Nat.shiftRight_eq_div_pow]
  have e2 : c.extractLsb' 16 8 = BitVec.ofNat 8 (c.toNat / 65536) := by
    apply BitVec.eq_of_toNat_eq; simp [Nat.shiftRight_eq_div_pow]
  have e1 : c.extractLsb' 8 8 = BitVec.ofNat 8 (c.toNat / 256) := by
    apply BitVec.eq_of_toNat_eq; simp [Nat.shiftRight_eq_div_pow]
  have e0 : c.extractLsb' 0 8 = BitVec.ofNat 8 c.toNat := by apply BitVec.eq_of_toNat_eq; simp
  unfold counterBytes fourBytes; rw [e3, e2, e1, e0]

end Sys2Proof.Machine
end

