-- ==== Sys2Proof/Tests/Slice0.lean ====
section
/-!
SUPPORT. Tests. The first part checks single commands against the values of the spec's own rules and worked examples. The second part
holds, for each statement with hypotheses, a named state and operands that meet them together (`witness_<statement>`).
-/

namespace Sys2Proof.Tests

set_option Elab.async false

open Sys2Proof Sys2Proof.Machine

/-! ### Helpers -/

/-- The state after a command; the state before it where the command is refused. -/
def after (c : Instr) (s : State) : State :=
  match exec c s with
  | .next t => t
  | .fault _ => s
  | .refused _ => s

/-- Whether a command answers a next state. -/
def runs (c : Instr) (s : State) : Bool :=
  match exec c s with
  | .next _ => true
  | .fault _ => false
  | .refused _ => false

/-- Decoded bytes on a lane. -/
def lane (bytes : List LaneByte) : List LaneSymbol := bytes.map LaneSymbol.byte

theorem laneBytes_lane (bytes : List LaneByte) : laneBytes (lane bytes) = bytes := by
  induction bytes with
  | nil => rfl
  | cons b rest ih => exact congrArg (b :: ·) ih

/-- Six header bytes. -/
def headBytes (kind tag : Byte) (serial length : Nat) : List Byte := [kind, tag] ++ twoBytes serial ++ twoBytes length

/-- The symbols of a header. -/
def head (kind tag : Byte) (serial length : Nat) : List LaneSymbol := lane ((headBytes kind tag serial length).map LaneByte.data)

/-- The symbols after the header of an undamaged frame. -/
def goodFrame (running : CheckWord) (payload : List Byte) : List LaneSymbol := lane (goodBytes running payload)

/-- The part with the carrier UP, and nothing to send. -/
def up : State := { State.reset with carrierPin := true, carrier := .up, events := {} }

/-- The part with a frame in transmission on each link. -/
def sending : State := { up with feedTx := some (.flow .poolGo), drainTx := some (.noteRefused ⟨0#8, 1⟩ none) }

/-- A record of 1,000 bytes in 16 cells. -/
def record (t : Tag) (number : Nat) (serial : Serial) : FrameRecord :=
  { number := number, stream := t, serial := some serial, length := 1000
    chain := (List.range 16).map fun i => 16 * number + i }

/-- n records of 1,000 bytes with consecutive serials. -/
def records (t : Tag) (first : Serial) (n : Nat) : List FrameRecord :=
  (List.range n).map fun i => record t i (first + BitVec.ofNat 12 i)

/-- An OPEN stream under profile 0 with n resident frames of 1,000 bytes from `first`, of which `sent` have been sent. -/
def live (t : Tag) (first : Serial) (n sent : Nat) : Stream :=
  { config := resetConfig t, state := .opened, occupancy := 16 * n, queue := records t first n, head := first
    cursor := first + BitVec.ofNat 12 sent, reach := first + BitVec.ofNat 12 sent, tail := first + BitVec.ofNat 12 n
    budget := 4, timer := .running 50 }

/-- The part with one stream that is not CLOSED, and a frame in transmission on each link. -/
def withStream (t : Tag) (x : Stream) : State := (sending.setStream t x).setMapped x.config.drainTag (some t)

/-- The part with a request EXECUTING. -/
def asking (s : State) (command target : Byte) (parameters : List Byte) : State :=
  { s with slots := [.executing { number := 0x14#8, command := command, target := target, parameters := parameters }] }

/-- The RESPONSE in the first slot, as its status and result. -/
def answer (s : State) : Option (Status × List Byte) :=
  match s.slots with
  | .answering r :: _ => some (r.status, r.result)
  | _ => none

/-! ### The words of the links (R174, R180, R181) -/

/-- R174: the nine bytes 31h to 39h yield 0CBF43926h, sent as 26h, 39h, 0F4h, 0CBh. -/
theorem test_check_word :
    checkOutput (checkBytes checkInitial [0x31#8, 0x32#8, 0x33#8, 0x34#8, 0x35#8, 0x36#8, 0x37#8, 0x38#8, 0x39#8]) =
        0xCBF43926#32 ∧
      checkWordBytes 0xCBF43926#32 = [0x26#8, 0x39#8, 0xF4#8, 0xCB#8] := by decide +kernel

/-! ### Well-formed commands (R121, R175) -/

theorem test_wellFormed_ack :
    (Instr.ack .whole ⟨255#8, 0#12⟩).wellFormed = false ∧ (Instr.ack .whole ⟨254#8, 0#12⟩).wellFormed = true := by decide
theorem test_wellFormed_replay :
    (Instr.replay .closing ⟨255#8, 0#12⟩).wellFormed = false ∧ (Instr.replay .closing ⟨254#8, 0#12⟩).wellFormed = true := by decide
theorem test_wellFormed_note :
    (Instr.consumerNote .whole ⟨0#12, 0#8, List.replicate 65 0#8⟩).wellFormed = false ∧
      (Instr.consumerNote .whole ⟨0#12, 0#8, List.replicate 64 0#8⟩).wellFormed = true := by decide

/-- The table gives no row any bits, so no word spells a command. -/
theorem test_no_words : decodeTableWord 0 0 = none ∧ decodeTableWord 16 0x1234 = none := by decide

/-! ### Reset and pins (R162, R182, R184) -/

/-- R182: DEVICE-STARTED carries the AUTOOPEN level and the profile number. -/
theorem test_device_started :
    (after (.deviceReset ⟨true, false, true⟩) State.reset).events.queue.map (fun e => e.detail) = [0x0102#16] := by
  decide +kernel

/-- R6: with AUTOOPEN high stream 63 is OPEN under drain tag 63. -/
theorem test_autoopen :
    let s := after (.deviceReset ⟨false, false, true⟩) State.reset
    (s.stream 62).state = .opened ∧ s.mapped ⟨63, by decide⟩ = some 62 ∧ s.mapped ⟨64, by decide⟩ = none := by
  decide +kernel

theorem test_power_up : (after (.powerUp true) sending).phase = .inReset := by decide +kernel

/-- R184: while RESET_N is low for a short pulse both links are silent, and a frame that arrives is not taken. -/
theorem test_short_pulse :
    let s := after (.resetNLow .under1us) sending
    s.resetPin = .lowShort ∧ s.feedBytes = none ∧ s.drainBytes = none ∧ s.attnN = true ∧
      (after (.consumerNote .whole ⟨0#12, 3#8, []⟩) s).notes.back = .empty := by decide +kernel

/-- R162: RESET_N low silences both links. -/
theorem test_reset_n_low :
    let s := after (.resetNLow .atLeast1us) { up with feedTx := some (.flow .poolPause) }
    s.phase = .inReset ∧ s.feedTx = none ∧ s.attnN = true := by decide +kernel

/-! ### Feed link -/

/-- The pool-pressure example, step 1: 530 − 32 = 498 cells, POOL-LOW with detail 498. -/
theorem test_feed_header_pool_low :
    let t : Tag := 2
    let s := withStream t { live t 0#12 0 0 with config := { resetConfig t with streamClass := 1 } }
    let u := after (.feedHeader (head 0x01#8 3#8 0 2048))
      { s with pool := { s.pool with freeCells := List.range 530, freeRecords := List.range 1800 } }
    u.pool.freeCells.length = 498 ∧ u.pool.freeRecords.length = 1799 ∧ u.pool.level = .low ∧
      u.events.queue.map (fun e => (e.kind, e.detail)) = [(.poolLow, 498#16)] := by decide +kernel

/-- The cell-limit example, step 3: 384 + 8 cells are above 384; OVERRUN with serial 224 and detail 384. -/
theorem test_feed_header_overrun :
    let t : Tag := 11
    let s := withStream t { live t 200#12 24 23 with occupancy := 384 }
    let u := after (.feedHeader (head 0x01#8 12#8 0 512)) s
    u.feedRx = .skipping 0 ∧ (u.stream t).counters.refusedLimit = 1#32 ∧ (u.stream t).overrunReported = true ∧
      u.events.queue = [{ kind := .overrun, streamTag := 12#8, drainTag := 12#8, serial := 224#16, detail := 384#16 }] := by
  decide +kernel

/-- R40: the receiver holds what has come of a header, and of the payload behind it. -/
theorem test_feed_header_parts :
    let u := after (.feedHeader (lane [.data 0x21#8, .data 0#8, .data 0#8])) sending
    let v := after (.feedHeader (lane [.data 0#8, .data 0#8, .data 2#8, .data 7#8])) u
    u.feedRx = .header [0x21#8, 0#8, 0#8] false ∧
      v.feedRx = .staging ⟨0x21#8, 0#8, 0#16, 2#16⟩ [7#8] (checkBytes checkInitial (headBytes 0x21#8 0#8 0 2)) false := by
  decide +kernel

/-- R51: a good frame is appended under the serial that the tail had. -/
theorem test_data_frame_end :
    let t : Tag := 11
    let r : FrameRecord := { number := 9, stream := t, serial := none, length := 2, chain := [7] }
    let s := { withStream t (live t 223#12 0 0) with feedRx := .storing r [] 0x1234#32 false }
    let u := after (.dataFrameEnd (goodFrame 0x1234#32 [0xAA#8, 0x55#8])) s
    (u.stream t).tail = 224#12 ∧ (u.stream t).queue.map (fun r => r.serial) = [some 223#12] ∧
      u.cells = [(448, 0xAA#8), (449, 0x55#8)] := by decide +kernel

/-- R51: a wrong byte count comes before a wrong check word. -/
theorem test_data_frame_end_short :
    let r : FrameRecord := { number := 9, stream := 11, serial := none, length := 2, chain := [7] }
    let u := after (.dataFrameEnd []) { sending with feedRx := .storing r [] 0#32 false }
    u.port.feedMalformed = 1#32 ∧ u.port.feedCheckErrors = 0#32 := by decide +kernel

theorem test_cut_short : (after (.feedFrameCutShort .start []) { sending with feedRx := .header [] false }).port.feedMalformed = 1#32 := by
  decide +kernel
theorem test_ignored : (after (.feedFrameIgnored [.idle]) sending).port.feedMalformed = 0#32 := by decide +kernel
theorem test_skipping_end : (after (.skippingFrameEnd []) { sending with feedRx := .skipping 0 }).feedRx = .awaitStart := by
  decide +kernel

/-- R146: a fifth request is lost, with request number and command in the event. -/
theorem test_request_lost :
    let r : Request := { number := 1#8, command := 1#8, target := 0#8, parameters := [] }
    let s := { sending with
      slots := List.replicate 4 (.queued r), feedRx := .staging ⟨0x31#8, 0#8, 0#16, 3#16⟩ [] 0#32 false }
    let u := after (.requestArrival (goodFrame 0#32 [0x14#8, 0x05#8, 0x05#8])) s
    u.slots.length = 4 ∧ u.port.requestsLost = 1#32 ∧ u.events.queue.map (fun e => e.detail) = [0x1405#16] := by
  decide +kernel

theorem test_producer_note :
    (after (.producerNote (goodFrame 0#32 [7#8, 8#8])) { sending with feedRx := .staging ⟨0x21#8, 0#8, 0#16, 2#16⟩ [] 0#32 false }
      ).notes.forward = .waiting { number := 7#8, payload := [8#8] } := by decide +kernel

theorem test_producer_note_taken :
    let s := { sending with
      notes := { sending.notes with back := .awaitingTaken { number := 7#8, payload := [] } }
      feedRx := .staging ⟨0x22#8, 0#8, 0#16, 1#16⟩ [] 0#32 false }
    let u := after (.producerNoteTaken (goodFrame 0#32 [7#8])) s
    u.notes.back = .empty ∧ u.notes.doneToConsumer = some { number := 7#8, count := 1 } := by decide +kernel

/-! ### Returns -/

/-- The draining close, before the request. -/
def closing : Stream := { live 4 100#12 6 5 with state := .draining, closeRequested := true }

/-- The draining close, step 3: ACK(102) releases three frames. -/
theorem test_ack :
    let x := (after (.ack .whole ⟨5#8, 102#12⟩) (withStream 4 closing)).stream 4
    x.state = .draining ∧ x.head = 103#12 ∧ x.cursor = 105#12 ∧ x.reach = 105#12 ∧ x.tail = 106#12 ∧ x.queue.length = 3 ∧
      x.occupancy = 48 := by decide +kernel

/-- The draining close, step 8: ACK(105) releases the last frame and closes the stream with outcome DRAINED. -/
theorem test_ack_closes :
    let u := after (.ack .whole ⟨5#8, 105#12⟩)
      (withStream 4 { live 4 105#12 1 1 with state := .draining, closeRequested := true })
    (u.stream 4).state = .closed ∧ (u.stream 4).head = 106#12 ∧ (u.stream 4).timer = .idle ∧ u.mapped ⟨5, by decide⟩ = none ∧
      u.events.queue =
        [{ kind := .streamClosed, streamTag := 5#8, drainTag := 5#8, serial := 106#16, detail := 1#16 }] := by decide +kernel

/-- R77: a REPLAY at head with the cursor beyond it charges the budget. -/
theorem test_replay :
    let x := (after (.replay .whole ⟨5#8, 100#12⟩) (withStream 4 (live 4 100#12 6 5))).stream 4
    x.cursor = 100#12 ∧ x.budget = 3 ∧ x.timer = .idle ∧ x.counters.peerReplays = 1#32 := by decide +kernel

/-- R76: a REPLAY that names reach releases every frame before it. -/
theorem test_replay_reach :
    let x := (after (.replay .whole ⟨5#8, 105#12⟩) (withStream 4 (live 4 100#12 6 5))).stream 4
    x.head = 105#12 ∧ x.queue.length = 1 ∧ x.occupancy = 16 ∧ x.budget = 4 := by decide +kernel

theorem test_hold :
    let x := (after (.hold (.whole, ⟨255#8, 0#12⟩)) (withStream 4 (live 4 100#12 6 5))).stream 4
    x.held = true ∧ x.timer = .frozen 50 := by decide +kernel
theorem test_resume :
    let x := (after (.resume (.whole, ⟨5#8, 0#12⟩)) (withStream 4 { live 4 100#12 6 5 with held := true, timer := .frozen 40 })).stream 4
    x.held = false ∧ x.timer = .running 40 := by decide +kernel
theorem test_consumer_note :
    (after (.consumerNote .whole ⟨0#12, 3#8, [1#8]⟩) sending).notes.back = .waiting { number := 3#8, payload := [1#8] } := by decide +kernel
theorem test_consumer_note_taken_stray : (after (.consumerNoteTaken (.whole, ⟨0#12, 3#8⟩)) sending).port.noteStray = 1#32 := by decide +kernel
/-- R121: an unknown KIND is counted as the sixth byte comes, and the end of the frame is not counted again. -/
theorem test_drain_frame_dropped :
    let u := after (.drainFrameDropped ⟨true, none⟩ (head 0x7F#8 0#8 0 0)) sending
    u.port.drainMalformed = 1#32 ∧ u.drainRx = .skipping ∧
      (after (.drainFrameDropped ⟨false, some .finish⟩ (lane [.data 1#8])) u).port.drainMalformed = 1#32 := by decide +kernel

/-- R121: a start marker that cuts a frame in reception short is counted, and the frame that it begins is taken. -/
theorem test_drain_frame_cut_short :
    let u := after (.ack .whole ⟨5#8, 102#12⟩) { withStream 4 closing with drainRx := .receiving [0x11#8] false }
    u.port.drainMalformed = 1#32 ∧ (u.stream 4).head = 103#12 ∧ u.drainRx = .awaitStart := by decide +kernel

/-- R106: an ACK that was arriving at carrier loss is discarded, also where it ends after the carrier is UP again. -/
theorem test_return_discarded :
    let u := after (.ack .closing ⟨5#8, 102#12⟩) { withStream 4 closing with drainRx := .discarding }
    (u.stream 4).head = 100#12 ∧ u.drainRx = .awaitStart ∧ u.port = {} := by decide +kernel

/-- R106: a frame whose start marker comes while the carrier is DOWN is discarded. -/
theorem test_return_discarded_down :
    (after (.returnFrameDiscarded ⟨⟨true, none⟩, head 0x11#8 5#8 102 0⟩) { up with carrier := .down, carrierPin := false }).drainRx =
      .discarding := by decide +kernel

/-! ### Clock and carrier -/

theorem test_tick :
    ((after .tick (withStream 4 (live 4 100#12 6 5))).stream 4).timer = .running 49 := by decide +kernel
/-- R90, R92: the tick that takes a timer from 1 to 0 expires it: a REPLAY taken after it finds the timer IDLE and the budget
charged by the expiry. -/
theorem test_tick_expires :
    let u := after .tick (withStream 4 { live 4 100#12 6 5 with timer := .running 1, budget := 1 })
    let x := (after (.replay .whole ⟨5#8, 100#12⟩) u).stream 4
    x.counters.timeouts = 1#32 ∧ x.budget = 0 ∧ x.timer = .idle ∧ x.cursor = 100#12 := by decide +kernel

/-- R79, R97: with the transmitter free, an expiry and a REPLAY of head cost one unit together; the replay then starts at head. -/
theorem test_expiry_and_replay_cost_one :
    let s := { withStream 4 { live 4 100#12 6 5 with timer := .due } with drainTx := none, atTick := true }
    let x := (after (.replay .whole ⟨5#8, 100#12⟩) s).stream 4
    let y := (after (.replay .whole ⟨5#8, 100#12⟩) (after (.timerExpiry 4) s)).stream 4
    (x.budget = 3 ∧ x.cursor = 100#12) ∧ (y.budget = 3 ∧ y.cursor = 100#12) ∧
      ((after .dataTransmissionStart (after (.replay .whole ⟨5#8, 100#12⟩) s)).stream 4).cursor = 101#12 := by decide +kernel

theorem test_timer_expiry_halts :
    let u := after (.timerExpiry 4) (withStream 4 { live 4 100#12 6 5 with timer := .due, budget := 0 })
    (u.stream 4).state = .halted ∧ (u.stream 4).cursor = 105#12 ∧ u.attnN = false := by decide +kernel

/-- The two streams of the carrier outage example. -/
def outage : State :=
  let s := { up with
    feedTx := some (.flow .poolGo)
    drainTx := some (.data (record 6 3 13#12) true ⟨7, by decide⟩ 13#12)
    notes := { up.notes with forward := .awaitingTaken { number := 0#8, payload := [] } } }
  (s.setStream 6 { live 6 10#12 6 4 with timer := .running 30 }).setStream 7
    { live 7 40#12 4 2 with held := true, timer := .frozen 40 }

/-- The carrier outage, step 1. -/
theorem test_carrier_absent :
    let u := after .carrierAbsent outage
    u.carrier = .down ∧ (u.stream 6).timer = .frozen 30 ∧ (u.stream 7).timer = .frozen 40 ∧ (u.stream 7).held = false ∧
      u.notes.forward = .waiting { number := 0#8, payload := [] } ∧
      u.events.queue =
        [{ kind := .carrierLost, streamTag := 7#8, drainTag := 7#8, serial := 13#16, detail := 1#16 }] := by decide +kernel

theorem test_carrier_present : (after .carrierPresent { up with carrierPin := false, carrier := .down }).carrier = .settling 50 := by decide +kernel

/-- The carrier outage, step 6: both streams are rewound. -/
theorem test_carrier_settled :
    let u := after .carrierSettled { after .carrierAbsent outage with carrier := .settled }
    u.carrier = .up ∧ (u.stream 6).cursor = 10#12 ∧ (u.stream 7).cursor = 40#12 ∧ (u.stream 6).timer = .idle ∧
      u.events.queue.tail.map (fun e => (e.kind, e.detail)) = [(.carrierUp, 2#16)] := by decide +kernel

/-! ### Drain transmitter -/

/-- The streams of the arbiter example that always have an eligible frame: 5 and 9 in class 1, 12 in class 2, 40 in class 3. -/
def round : State :=
  (((up.setStream 4 { live 4 0#12 1 0 with config := { resetConfig 4 with streamClass := 1 } }).setStream 8
      { live 8 0#12 1 0 with config := { resetConfig 8 with streamClass := 1 } }).setStream 11 (live 11 0#12 1 0)).setStream 39
    { live 39 0#12 1 0 with config := { resetConfig 39 with streamClass := 3 } }

/-- Decision 1 serves stream 5 and spends a credit of class 1. -/
theorem test_data_start :
    let u := after .dataTransmissionStart round
    u.credits = ⟨7, 4, 1⟩ ∧ u.positions.class1.number = 5 ∧ (u.stream 4).cursor = 1#12 ∧ (u.stream 4).counters.starts = 1#32 := by
  decide +kernel

/-- Decision 15: every credit is 0, so they are reloaded, and stream 5 follows stream 9. -/
theorem test_data_start_reload :
    let u := after .dataTransmissionStart { round with credits := ⟨0, 0, 0⟩, positions := { round.positions with class1 := 8 } }
    u.credits = ⟨7, 4, 1⟩ ∧ u.positions.class1.number = 5 := by decide +kernel

/-- The pool-pressure example, step 4: a DEFERRED frame returns its 16 cells at its completion. -/
theorem test_data_complete :
    let u := after .dataTransmissionComplete { up with
      drainTx := some (.data (record 6 0 40#12) false ⟨7, by decide⟩ 40#12)
      pool := { up.pool with freeCells := List.range 530, freeRecords := List.range 1801, level := .low } }
    u.drainTx = none ∧ u.pool.freeCells.length = 546 ∧ u.pool.freeRecords.length = 1802 ∧ u.pool.level = .low := by decide +kernel

/-- The part with a forward note. -/
def noted (slot : NoteSlot) (tx : Option DrainTransmission) : State :=
  { up with notes := { up.notes with forward := slot }, drainTx := tx }

/-- R136: with the transmitter free and the carrier UP the note starts in the step of its arrival, before any other command. -/
theorem test_forward_note_starts_at_once :
    let u := after (.producerNote (goodFrame 0#32 [7#8]))
      { up with feedRx := .staging ⟨0x21#8, 0#8, 0#16, 1#16⟩ [] 0#32 false }
    (after .carrierAbsent u).notes.forward = .waiting ⟨7#8, []⟩ ∧ (after .tick u).drainTx = some (.note ⟨7#8, []⟩) ∧
      (after .tick u).notes.forward = .sending ⟨7#8, []⟩ false := by decide +kernel

theorem test_forward_note_start :
    (after .forwardNoteStart (noted (.waiting ⟨1#8, []⟩) none)).drainTx = some (.note ⟨1#8, []⟩) := by decide +kernel
theorem test_forward_note_complete :
    (after .forwardNoteComplete (noted (.sending ⟨1#8, []⟩ false) (some (.note ⟨1#8, []⟩)))).notes.forward =
      .awaitingTaken ⟨1#8, []⟩ := by decide +kernel
theorem test_drain_indication_start :
    (after .drainIndicationStart { up with notes := { up.notes with doneToConsumer := some ⟨7#8, 2⟩ } }).drainTx =
      some (.noteDone ⟨7#8, 2⟩ none) := by decide +kernel
theorem test_drain_indication_complete :
    (after .drainIndicationComplete { up with
      drainTx := some (.noteDone ⟨7#8, 2⟩ none), notes := { up.notes with doneToConsumer := some ⟨7#8, 2⟩ } }
      ).notes.doneToConsumer = none := by decide +kernel

/-! ### Feed transmitter -/

theorem test_flow_frame_start :
    let u := after .flowFrameStart (up.setStream 4 { live 4 0#12 0 0 with flow := .paused })
    u.feedTx = some (.flow (.pause 4)) ∧ u.flowPosition.number = 5 ∧ (u.stream 4).sentFlow = .paused := by decide +kernel
theorem test_feed_indication_start :
    let u := after .feedIndicationStart { up with notes := { up.notes with refusedToProducer := some ⟨7#8, 2⟩ } }
    u.feedTx = some (.noteRefused ⟨7#8, 2⟩) ∧ u.notes.refusedToProducer = none := by decide +kernel

/-- An answered request. -/
def answered : Response := { number := 1#8, command := 0x0D#8, target := 0#8, status := .ok, result := [] }

theorem test_response_start :
    (after .responseStart { up with slots := [.answering answered] }).feedTx = some (.response answered) := by decide +kernel
theorem test_response_complete_resets :
    let u := after (.responseComplete ⟨false, false, false⟩)
      { up with slots := [.answering answered], feedTx := some (.response answered), resetPending := true }
    u.slots = [] ∧ u.resetPending = false ∧ u.events.queue = [resetStartedRecord] := by decide +kernel
theorem test_back_note_start :
    (after .backNoteStart { up with notes := { up.notes with back := .waiting ⟨1#8, []⟩ } }).notes.back =
      .sending ⟨1#8, []⟩ false := by decide +kernel
theorem test_back_note_complete :
    (after .backNoteComplete { up with feedTx := some (.note ⟨1#8, []⟩), notes := { up.notes with back := .sending ⟨1#8, []⟩ true } }
      ).notes.back = .empty := by decide +kernel
theorem test_event_frame_start :
    let u := after .eventFrameStart State.reset
    u.feedTx = some (.event resetStartedRecord 0) ∧ u.events.queue = [] := by decide +kernel
/-- R162, R170: DEVICE-STARTED is taken in the step that ends the reset: no tick finds it still queued. -/
theorem test_device_started_is_taken :
    (after .tick State.reset).feedTx = some (.event resetStartedRecord 0) ∧ (after .tick State.reset).events.queue = [] := by
  decide +kernel
theorem test_feed_frame_complete :
    (after .feedFrameComplete { up with feedTx := some (.flow .poolPause) }).feedTx = none := by decide +kernel

/-! ### Requests -/

theorem test_identify :
    answer (after .identify (asking sending 0x01#8 0#8 [])) = some (.ok, [0x5A#8, 0x02#8, 0x64#8, 0x01#8, 0x3F#8, 0x20#8, 0x00#8, 0x40#8,
      0x08#8, 0x00#8, 0x08#8, 0x00#8, 0x04#8, 0x10#8, 0x00#8, 0x00#8, 0x20#8, 0x00#8, 0x08#8, 0x00#8, 0x00#8, 0x02#8]) := by
  decide +kernel

/-- R153, R181: the defaults are reserve 512, hysteresis 128, weights 8, 4, 1, mask 17F7h and settle time 50. -/
theorem test_read_settings :
    answer (after .readSettings (asking sending 0x02#8 0#8 [])) =
      some (.ok, [0x02#8, 0x00#8, 0x00#8, 0x80#8, 8#8, 4#8, 1#8, 0x17#8, 0xF7#8, 50#8]) := by decide +kernel

theorem test_write_settings :
    let u := after .writeSettings
      (asking sending 0x03#8 0#8 [0x00#8, 0x00#8, 0x00#8, 0x00#8, 1#8, 16#8, 1#8, 0x00#8, 0x01#8, 255#8])
    answer u = some (.ok, [0#8]) ∧ u.settings.weights = ⟨1, 16, 1⟩ ∧ u.settings.settleTime = 255 := by decide +kernel

theorem test_read_stream :
    answer (after .readStream (asking sending 0x04#8 1#8 [])) = some (.ok, [0x01#8, 0x02#8, 0x00#8, 0x20#8, 0x00#8, 0x32#8, 0x04#8, 0x01#8,
      0x00#8, 0x00#8, 0x80#8, 0x01#8, 0x80#8] ++ List.replicate 21 0#8 ++ [0x04#8]) := by decide +kernel

/-- The wire-format example: stream 5 takes profile 1's values, and 600 cells against the high watermark of 512 pause it. -/
theorem test_write_stream :
    let s := withStream 4 { live 4 0#12 0 0 with occupancy := 600, config := { resetConfig 4 with highWatermark := 700 } }
    let block := [0x01#8, 0x00#8, 0x40#8, 0x00#8, 0x64#8, 0x08#8, 0x02#8, 0x00#8, 0x01#8, 0x00#8, 0x03#8, 0x00#8]
    let u := after .writeStream (asking s 0x05#8 5#8 (0x05#8 :: block))
    answer u = some (.ok, [1#8]) ∧ (u.stream 4).config.ackTimeout = 100 ∧
      answer (after .writeStream (asking s 0x05#8 5#8 (0x06#8 :: block))) = some (.badState, []) := by decide +kernel

theorem test_open_stream :
    let u := after .openStream (asking sending 0x06#8 5#8 [0x0F#8, 0xFF#8])
    answer u = some (.ok, [0x0F#8, 0xFF#8]) ∧ (u.stream 4).state = .opened ∧ (u.stream 4).tail = 4095#12 ∧
      u.mapped ⟨5, by decide⟩ = some 4 := by decide +kernel

/-- The draining close, step 1. -/
theorem test_close_drain :
    let u := after .closeStreamDrain (asking (withStream 4 (live 4 100#12 6 5)) 0x07#8 5#8 [0x00#8])
    answer u = some (.accepted, [0x00#8, 0x06#8]) ∧ (u.stream 4).state = .draining ∧ (u.stream 4).closeRequested = true := by
  decide +kernel

/-- The draining close, DISCARD just after step 6: frame 105 is released and the stream is CLOSED without an event. -/
theorem test_close_discard :
    let s := withStream 4 { live 4 105#12 1 1 with state := .draining, closeRequested := true }
    let u := after .closeStreamDiscard (asking s 0x07#8 5#8 [0x01#8])
    (u.stream 4).state = .closed ∧ (u.stream 4).head = 106#12 ∧ (u.stream 4).occupancy = 0 ∧ u.events = s.events := by
  decide +kernel

/-- The cell-limit example, step 7: a flush during a reception leaves the 16 cells of the arriving frame, and GO. -/
theorem test_flush :
    let t : Tag := 11
    let s := withStream t { live t 206#12 18 17 with occupancy := 304, flow := .paused, sentFlow := .paused }
    let u := after .flushStream (asking s 0x08#8 12#8 [0x01#8, 0xF4#8])
    (u.stream t).head = 500#12 ∧ (u.stream t).tail = 500#12 ∧ (u.stream t).occupancy = 16 ∧ (u.stream t).flow = .go ∧
      answer u = some (.ok, [0x01#8, 0xF4#8, 0x00#8, 0x12#8]) := by decide +kernel

theorem test_restart :
    let u := after .restartStream (asking (withStream 4 { live 4 100#12 6 5 with state := .halted, timer := .idle, budget := 0 })
      0x09#8 5#8 [])
    (u.stream 4).state = .opened ∧ (u.stream 4).cursor = 100#12 ∧ (u.stream 4).budget = 4 := by decide +kernel

theorem test_read_counters_clears :
    let u := after .readCounters (asking { sending with port := { noteStray := 3#32 } } 0x0A#8 0#8 [1#8])
    answer u = some (.ok, List.replicate 23 0#8 ++ [3#8] ++ List.replicate 4 0#8) ∧ u.port.noteStray = 0#32 := by decide +kernel

theorem test_clear_note :
    answer (after .clearNote (asking (noted (.waiting ⟨9#8, []⟩) sending.drainTx) 0x0B#8 0#8 [0#8])) = some (.ok, [1#8, 9#8]) := by
  decide +kernel

theorem test_discard_all :
    let u := after .discardAll (asking (withStream 4 closing) 0x0C#8 0#8 [])
    answer u = some (.ok, [1#8, 0#8, 6#8]) ∧ (u.stream 4).state = .closed ∧
      u.events.queue.map (fun e => (e.kind, e.serial, e.detail)) = [(.streamClosed, 106#16, 3#16)] := by decide +kernel

theorem test_reset_device : (after .resetDevice (asking sending 0x0D#8 0#8 [])).resetPending = true := by decide +kernel
theorem test_unknown_command :
    answer (after .unknownCommand (asking sending 0x0E#8 99#8 [1#8])) = some (.badCommand, []) := by decide +kernel

/-! ### Witnesses: reset and pins -/

theorem runs_next {c : Instr} {s : State} (h : runs c s = true) : exec c s = .next (after c s) := by
  unfold runs at h; unfold after
  cases hc : exec c s with
  | next t => rfl
  | fault f => rw [hc] at h; cases h
  | refused r => rw [hc] at h; cases h

theorem witness_ExecLeavesQueue : exec .tick sending = .next (after .tick sending) := runs_next (by decide +kernel)

/-- With nothing owed, and with a carrier that has just settled. -/
theorem witness_OwedStepsComeFirst :
    (Instr.replay .whole ⟨5#8, 0#12⟩).ownStep = false ∧ { up with phase := Phase.inReset }.phase = .inReset ∧ up.Quiet ∧
      up.phase = .running ∧ up.atTick = false ∧
      (let s := { up with carrier := Carrier.settled, atTick := true }
       s.phase = .running ∧ s.atTick = true ∧ s.tickOwes = true ∧ s.found.carrier = .up ∧ s.found.atTick = false) := by
  decide +kernel

theorem witness_PowerAndLowPulseHoldThePart :
    ((∃ high, Instr.powerUp true = .powerUp high) ∧ Instr.resetNLow .atLeast1us = .resetNLow .atLeast1us) ∧ up.Quiet ∧
      { up with phase := Phase.inReset }.phase = .inReset ∧ (Instr.feedFrameIgnored []).origin = .feedLink ∧
      (Instr.hold (.whole, ⟨0#8, 0#12⟩)).origin = .drainLink := ⟨⟨⟨_, rfl⟩, rfl⟩, by decide +kernel, rfl, rfl, rfl⟩

/-- With frames in transmission on both links; the free value is one of the two cases. -/
theorem witness_ShortPulseResetsOrCarriesOn :
    sending.Ready ∧ (sending.carrierPin = true ↔ sending.carrier ≠ .down) ∧
      (Config.shortPulseResets sending.freeCount = true ∨ Config.shortPulseResets sending.freeCount = false) :=
  ⟨by decide +kernel, by decide, by cases Config.shortPulseResets sending.freeCount <;> simp⟩

/-- A request of command and target with the given parameters. -/
def req (command target : Byte) (parameters : List Byte) : Request :=
  { number := 0x14#8, command := command, target := target, parameters := parameters }

/-- The part with a request EXECUTING behind an answered one and ahead of two queued ones. -/
def busy (s : State) (r : Request) : State :=
  { s with slots := [Slot.answering answered].append (.executing r :: [req 1#8 0#8 [], req 2#8 0#8 []].map Slot.queued) }

/-- With a frame in transmission on each link neither arbiter decides. -/
theorem quiet_sending {s : State} (hf : s.feedTx ≠ none) (hd : s.drainTx ≠ none) (ht : ∀ t : Tag, (s.stream t).timer ≠ .due)
    (hc : s.carrier ≠ .settled) (ha : s.atTick = false) : s.Quiet :=
  ⟨ht, hc, ha, if_neg fun h => hd h.2.1, if_neg fun h => hf h.2⟩

theorem busy_executing (s : State) (r : Request) (h : s.phase = .running) (hf : s.feedTx ≠ none) (hd : s.drainTx ≠ none)
    (ht : ∀ t : Tag, (s.stream t).timer ≠ .due) (hc : s.carrier ≠ .settled) (ha : s.atTick = false) :
    (busy s r).Executing r [answered] [req 1#8 0#8 [], req 2#8 0#8 []] :=
  ⟨h, quiet_sending (s := busy s r) hf hd ht hc ha, rfl⟩

theorem sending_executing (r : Request) :
    (busy sending r).Executing r [answered] [req 1#8 0#8 [], req 2#8 0#8 []] :=
  busy_executing sending r rfl (by decide) (by decide) (by decide +kernel) (by decide) rfl

theorem witness_DeviceResetCommands :
    (busy sending (req 0x0D#8 0#8 [])).Executing (req 0x0D#8 0#8 []) [answered] [req 1#8 0#8 [], req 2#8 0#8 []] ∧
      up.resetPin = .high ∧ { up with resetPin := ResetPin.low }.resetPin = .low ∧
      (let s := { up with feedTx := some (.response answered), resetPending := true }
       s.Awake ∧ s.feedTx = some (.response answered) ∧ s.resetPending = true ∧ answered.command = 0x0D#8 ∧
         answered.status = .ok) :=
  ⟨sending_executing _, rfl, rfl, ⟨rfl, rfl⟩, rfl, rfl, rfl, rfl⟩

theorem witness_DeviceResetOtherBlocks : up.resetPin = .high := rfl

theorem witness_DeviceStartedIsFirstFrame :
    State.reset.resetPin = .high ∧ Instr.flowFrameStart.ownStep = true ∧ Instr.flowFrameStart ≠ .eventFrameStart ∧
      Instr.tick.ownStep = false := by decide

/-! ### Witnesses: feed link -/

/-- The part with three bytes of a header held. -/
def holding : State := { up with feedRx := .header [0x31#8, 0#8, 0#8] false }

/-- Five bytes since the start marker; and two more after three that are held. -/
theorem witness_FeedHeaderIsSkippedOrStaged_short :
    up.Ready ∧ up.sinceStart (lane (List.replicate 5 (.data 0#8))) = some (List.replicate 5 0#8, false) ∧
      holding.Ready ∧ holding.sinceStart (lane [.data 0#8, .data 0#8]) = some ([0x31#8, 0#8, 0#8, 0#8, 0#8], false) := by
  decide +kernel

/-- The bytes since the start marker where a header comes whole. -/
theorem head_sinceStart (kind tag : Byte) (serial length : Nat) :
    up.sinceStart (head kind tag serial length) = some (headBytes kind tag serial length, false) := by
  unfold State.sinceStart State.arrived undecodedIn head
  rw [laneBytes_lane, laneValues_data, undecodedCount_data]; rfl

/-- Malformed: tag 64, length 0, length 2,049, serial 4,096, and a REQUEST of 2 bytes. -/
theorem witness_FeedHeaderIsSkippedOrStaged_malformed :
    up.Ready ∧ (∀ kind tag serial length, (headBytes kind tag serial length).length = 6) ∧
      (headerOf (headBytes 0x01#8 64#8 0 1)).MalformedOnFeed ∧ (headerOf (headBytes 0x01#8 63#8 0 0)).MalformedOnFeed ∧
      (headerOf (headBytes 0x01#8 63#8 0 2049)).MalformedOnFeed ∧ (headerOf (headBytes 0x01#8 63#8 4096 2048)).MalformedOnFeed ∧
      (headerOf (headBytes 0x31#8 0#8 0 2)).MalformedOnFeed := by
  simp only [← feedKind_eq_none]
  exact ⟨by decide +kernel, fun _ _ _ _ => rfl, by decide +kernel⟩

/-- Staged: a REQUEST of 3 and of 64 bytes, a NOTE of 65, a NOTE-TAKEN of 1; and a REQUEST's header in two parts. -/
theorem witness_FeedHeaderIsSkippedOrStaged_staged :
    (¬ (headerOf (headBytes 0x31#8 0#8 4095 3)).MalformedOnFeed ∧ (headerOf (headBytes 0x31#8 0#8 4095 3)).kind ≠ 0x01#8) ∧
      ¬ (headerOf (headBytes 0x31#8 0#8 0 64)).MalformedOnFeed ∧ ¬ (headerOf (headBytes 0x21#8 0#8 0 65)).MalformedOnFeed ∧
      ¬ (headerOf (headBytes 0x22#8 0#8 0 1)).MalformedOnFeed ∧
      holding.sinceStart (lane [.data 1#8, .data 0#8, .data 3#8, .data 9#8]) =
        some ([0x31#8, 0#8, 0#8, 1#8, 0#8, 3#8, 9#8], false) := by
  simp only [← feedKind_eq_none]; decide +kernel

/-- The conditions that the statements on DATA headers share, for a header of a stream and a length. -/
def DataHeader (s : State) (bytes : List Byte) (t : Tag) : Prop :=
  s.Ready ∧ s.sinceStart (lane (bytes.map LaneByte.data)) = some (bytes, false) ∧ 6 ≤ bytes.length ∧
    ¬ (headerOf bytes).MalformedOnFeed ∧ (headerOf bytes).kind = 0x01#8 ∧ t.number = (headerOf bytes).tag.toNat

theorem witness_AdmissionRefusesInOrder_state :
    DataHeader up (headBytes 0x01#8 63#8 0 2048) 62 ∧ (up.stream 62).state ≠ .opened := by
  simp only [DataHeader, ← feedKind_eq_none]; decide +kernel

/-- One cell above the limit, after an event and before one. -/
theorem witness_AdmissionRefusesInOrder_limit :
    let x := { live 0 0#12 0 0 with occupancy := 384 }
    DataHeader (withStream 0 x) (headBytes 0x01#8 1#8 0 64) 0 ∧ x.state = .opened ∧
      x.config.cellLimit < x.occupancy + (64 + 63) / 64 ∧ x.overrunReported = false ∧
      { x with overrunReported := true }.overrunReported = true ∧
      DataHeader (withStream 0 { x with overrunReported := true }) (headBytes 0x01#8 1#8 0 64) 0 := by
  simp only [DataHeader, ← feedKind_eq_none]; decide +kernel

/-- At the cell limit and one cell below the reserve; and with no record. -/
theorem witness_AdmissionRefusesInOrder_pool :
    let x := { live 0 0#12 0 0 with occupancy := 383 }
    let s := { withStream 0 x with pool := { up.pool with freeCells := List.range 512 } }
    let u := { withStream 0 x with pool := { up.pool with freeRecords := [] } }
    DataHeader s (headBytes 0x01#8 1#8 0 64) 0 ∧ (s.stream 0).state = .opened ∧
      (s.stream 0).occupancy + (64 + 63) / 64 ≤ (s.stream 0).config.cellLimit ∧
      (2 ≤ (s.stream 0).config.streamClass.val ∧ s.pool.freeCells.length < s.settings.reserve + (64 + 63) / 64) ∧
      DataHeader u (headBytes 0x01#8 1#8 0 64) 0 ∧ u.pool.freeRecords = [] := by
  simp only [DataHeader, ← feedKind_eq_none]; decide +kernel

/-- At the cell limit and at the reserve; five bytes have come with the header. -/
theorem witness_AdmittedHeaderReserves :
    let x := { live 0 0#12 0 0 with occupancy := 383 }
    let s := { withStream 0 x with pool := { up.pool with freeCells := List.range 513, freeRecords := [9] } }
    DataHeader s (headBytes 0x01#8 1#8 0 64 ++ [1#8, 2#8, 3#8, 4#8, 5#8]) 0 ∧ (s.stream 0).state = .opened ∧
      (s.stream 0).occupancy + (64 + 63) / 64 ≤ (s.stream 0).config.cellLimit ∧
      s.settings.reserve + (64 + 63) / 64 ≤ s.pool.freeCells.length ∧ (64 + 63) / 64 ≤ s.pool.freeCells.length ∧
      s.pool.freeRecords = 9 :: [] := by
  simp only [DataHeader, ← feedKind_eq_none]; decide +kernel

/-- The record of a frame of one byte for stream 12. -/
def arriving : FrameRecord := { number := 9, stream := 11, serial := none, length := 1, chain := [7] }

/-- The part with that frame in STORING, its one byte received. -/
def storing : State :=
  { withStream 11 { live 11 0#12 0 0 with occupancy := 1 } with feedRx := .storing arriving [0xAA#8] 0#32 false }

/-- The check word of that frame. -/
def closingWord : List LaneSymbol := lane ((checkWordBytes (checkOutput (checkBytes 0#32 [0xAA#8]))).map LaneByte.data)

theorem witness_GoodDataFrameIsAppended :
    storing.Ready ∧ storing.feedRx = .storing arriving [0xAA#8] 0#32 false ∧ [0xAA#8].length = 1 ∧
      [0xAA#8].map LaneByte.data ++ laneBytes closingWord = goodBytes 0#32 [0xAA#8] ∧
      (storing.stream 11).state = .opened := by decide +kernel

/-- A frame without a check word; a frame damaged in its header; an undamaged frame of a stream that is no longer OPEN. -/
theorem witness_RefusedDataFrameReturnsReservation :
    storing.Ready ∧ ([0xAA#8] ++ storing.arrived []).length ≠ 1 + 4 ∧
      (([0xAA#8] ++ storing.arrived closingWord).length = 1 + 4 ∧ true = true) ∧
      (storing.setStream 11 { live 11 0#12 0 0 with state := .closed }).feedRx = storing.feedRx ∧
      ((storing.setStream 11 { live 11 0#12 0 0 with state := .closed }).stream 11).state ≠ .opened := by decide +kernel

/-- A frame of 65 bytes in cells 7 and 3. -/
theorem witness_StoredPayloadReadsBack :
    let payload := List.replicate 65 0xAA#8
    let s := { up with
      feedRx := .storing { number := 9, stream := 11, serial := none, length := 65, chain := [7, 3] } [0xAA#8] 0#32 false }
    s.Ready ∧ s.cells.wf = true ∧ [7, 3].Nodup ∧ [7, 3].length = (65 + 63) / 64 ∧ payload.length = 65 ∧
      [0#8, 0#8, 0#8, 0#8].length = 4 ∧
      [0xAA#8].map LaneByte.data ++ laneBytes (lane ((payload.tail ++ [0#8, 0#8, 0#8, 0#8]).map LaneByte.data)) =
        (payload ++ [0#8, 0#8, 0#8, 0#8]).map LaneByte.data := by decide +kernel

/-- The byte after the one that the frame stores. -/
theorem witness_OnlyReceivedPayloadIsStored :
    exec (.dataFrameEnd closingWord) storing = .next (after (.dataFrameEnd closingWord) storing) ∧
      (storing.settle.storesBytes (.dataFrameEnd closingWord)).2 = 1 ∧
      ∀ i, i < 1 → storeAddress (storing.settle.storesBytes (.dataFrameEnd closingWord)).1 i ≠ some 449 :=
  ⟨runs_next (by decide +kernel), by decide +kernel, by decide +kernel⟩

/-- Five bytes of a header; and each other state of the receiver. -/
theorem witness_FeedFramesCutShortIgnoredOrSkipped :
    up.Ready ∧ up.feedRx = .awaitStart ∧
      up.sinceStart (lane (List.replicate 5 (.data 0#8))) = some (List.replicate 5 0#8, false) ∧
      holding.sinceStart (lane [.data 0#8, .data 0#8]) = some ([0x31#8, 0#8, 0#8, 0#8, 0#8], false) ∧
      { up with feedRx := FeedReceiver.staging ⟨0x31#8, 0#8, 0#16, 3#16⟩ [] 0#32 false }.feedRx =
        .staging ⟨0x31#8, 0#8, 0#16, 3#16⟩ [] 0#32 false ∧
      { up with feedRx := FeedReceiver.skipping 5 }.feedRx = .skipping 5 ∧
      storing.feedRx = .storing arriving [0xAA#8] 0#32 false := by
  decide +kernel

/-- The part with a frame in STAGING. -/
def staging (kind : Byte) (length : BitVec 16) (damaged : Bool) : State :=
  { sending with feedRx := .staging { kind := kind, tag := 0#8, serial := 0#16, length := length } [] 0#32 damaged }

theorem staged {s : State} (hs : s.Ready) (kind : Byte) (payload : List Byte) (header : Header)
    (hr : s.feedRx = .staging header [] 0#32 false) (hk : header.kind = kind) (hl : payload.length = header.length.toNat) :
    s.StagedFrame kind (goodFrame 0#32 payload) payload :=
  ⟨hs, header, [], 0#32, hr, hk, hl, laneBytes_lane _⟩

/-- No bytes; and an undecodable byte in the check word of a NOTE-TAKEN. -/
theorem witness_DamagedStagedFrameIsDropped :
    (staging 0x31#8 3#16 false).Ready ∧ ([] ++ (staging 0x31#8 3#16 false).arrived []).length ≠ (3#16).toNat + 4 ∧
      (let bytes := List.replicate 4 (LaneByte.data 0#8) ++ [.undecodable]
       ([] ++ (staging 0x22#8 1#16 false).arrived (lane bytes)).length = (1#16).toNat + 4 ∧ undecodedIn (lane bytes) ≠ 0) :=
  ⟨by decide +kernel, by decide +kernel, by rw [List.nil_append, State.arrived, laneValues_length]; decide, by decide⟩

theorem witness_RequestTakesSlotOrIsLost_queued :
    let s := { staging 0x31#8 3#16 false with slots := List.replicate 3 (.executing (req 1#8 0#8 [])) }
    s.StagedFrame 0x31#8 (goodFrame 0#32 [1#8, 2#8, 3#8]) [1#8, 2#8, 3#8] ∧ s.slots.length < 4 ∧
      s.slots.any Slot.isExecuting = true :=
  ⟨staged (by decide +kernel) 0x31#8 [1#8, 2#8, 3#8] _ rfl rfl rfl, by decide, by decide⟩
theorem witness_RequestTakesSlotOrIsLost_taken :
    let s := { staging 0x31#8 3#16 false with slots := List.replicate 3 (.answering answered) }
    s.StagedFrame 0x31#8 (goodFrame 0#32 [1#8, 2#8, 3#8]) [1#8, 2#8, 3#8] ∧ s.slots.length < 4 ∧ s.resetPending = false ∧
      ∀ x ∈ s.slots, ∃ a, x = .answering a :=
  ⟨staged (by decide +kernel) 0x31#8 [1#8, 2#8, 3#8] _ rfl rfl rfl, by decide, rfl,
    fun _ h => ⟨answered, List.eq_of_mem_replicate h⟩⟩
theorem witness_RequestTakesSlotOrIsLost_lost :
    let s := { staging 0x31#8 3#16 false with slots := List.replicate 4 (.answering answered) }
    s.StagedFrame 0x31#8 (goodFrame 0#32 [1#8, 2#8, 3#8]) [1#8, 2#8, 3#8] ∧ 4 ≤ s.slots.length :=
  ⟨staged (by decide +kernel) 0x31#8 [1#8, 2#8, 3#8] _ rfl rfl rfl, by decide⟩

/-! ### Witnesses: notes -/

/-- A good frame that comes whole where no frame is in reception, and one whose first bytes are held, are both taken. -/
theorem takes {s : State} (hr : s.Ready) (hc : s.carrier = .up) (hd : s.drainRx = .awaitStart) (frame : List Byte) (n : Nat) :
    s.TakesReturn .whole frame s ∧ { s with drainRx := .receiving (frame.take n) false }.TakesReturn .closing frame s := by
  have h2 : { s with drainRx := .receiving (frame.take n) false }.Quiet := hr.2
  refine ⟨?_, ?_⟩
  · unfold State.TakesReturn
    rw [State.found_of_quiet hr.2]
    refine ⟨hr.1, hc, ?_⟩
    unfold State.portAtStart
    rw [hd]
    apply State.ext <;> first | rfl | exact hd
  · unfold State.TakesReturn
    rw [State.found_of_quiet h2]
    refine ⟨hr.1, hc, ⟨_, rfl, List.take_prefix _ _⟩, ?_⟩
    apply State.ext <;> first | rfl | exact hd

/-- The frames of the tests are taken: whole, or with their first six bytes held. -/
abbrev Takes (s : State) : Prop :=
  ∀ frame, s.TakesReturn .whole frame s ∧ { s with drainRx := .receiving (frame.take 6) false }.TakesReturn .closing frame s

theorem witness_NoteIsStoredOrRefused_producer :
    (staging 0x21#8 2#16 false).StagedFrame 0x21#8 (goodFrame 0#32 [7#8, 8#8]) [7#8, 8#8] :=
  staged (by decide +kernel) 0x21#8 [7#8, 8#8] _ rfl rfl rfl

/-- A payload of 64 bytes, an EMPTY slot, an occupied one, and a NOTE-REFUSED in transmission. -/
theorem witness_NoteIsStoredOrRefused_consumer :
    Takes up ∧ (List.replicate 64 0#8).length ≤ 64 ∧ up.notes.back = .empty ∧
      { up.notes with back := NoteSlot.waiting ⟨1#8, []⟩ }.back ≠ .empty ∧
      { up with drainTx := some (.noteRefused ⟨1#8, 255⟩ none) }.drainTx = some (.noteRefused ⟨1#8, 255⟩ none) ∧
      ∀ sent tally, up.drainTx ≠ some (.noteRefused sent tally) :=
  ⟨fun _ => takes (by decide +kernel) rfl rfl _ _, by decide, rfl, by decide, rfl, (fun _ _ h => nomatch h)⟩

theorem witness_NoteTakenIsMatchedOrStray_consumer :
    Takes (noted (.awaitingTaken ⟨7#8, []⟩) none) ∧
      (noted (.awaitingTaken ⟨7#8, []⟩) none).notes.forward = .awaitingTaken ⟨7#8, []⟩ ∧
      (∀ n : Note, (noted (.awaitingTaken ⟨7#8, []⟩) none).notes.forward = .awaitingTaken n → n.number ≠ 8#8) :=
  ⟨fun _ => takes (by decide +kernel) rfl rfl _ _, rfl, fun n h => by cases h; decide⟩

theorem witness_NoteTakenIsMatchedOrStray_producer :
    let s := { staging 0x22#8 1#16 false with
      notes := { up.notes with back := .awaitingTaken ⟨7#8, []⟩ }, drainTx := some (.noteDone ⟨1#8, 255⟩ none) }
    s.StagedFrame 0x22#8 (goodFrame 0#32 [7#8]) [7#8] ∧ s.notes.back = .awaitingTaken ⟨7#8, []⟩ ∧
      s.drainTx = some (.noteDone ⟨1#8, 255⟩ none) ∧ s.StagedFrame 0x22#8 (goodFrame 0#32 [8#8]) [8#8] ∧
      (∀ n : Note, s.notes.back = .awaitingTaken n → n.number ≠ 8#8) ∧
      (∀ sent tally, up.drainTx ≠ some (.noteDone sent tally)) :=
  ⟨staged (by decide +kernel) 0x22#8 [7#8] _ rfl rfl rfl, rfl, rfl, staged (by decide +kernel) 0x22#8 [8#8] _ rfl rfl rfl, fun n h => by cases h; decide, (fun _ _ h => nomatch h)⟩

/-! ### Witnesses: returns -/

/-- With the carrier DOWN, a whole ACK and a part of a frame that a start marker cuts short; with the carrier UP, the end of a frame that is
being discarded, and of one that a reset abandoned. -/
theorem witness_ReturnsWhileCarrierNotUp :
    (let s := { sending with carrier := Carrier.down, drainTx := none, drainRx := .discarding }
     s.Ready ∧ s.carrier ≠ .up ∧ s.drainRx = .discarding ∧ s.drainRx ≠ .skipping ∧
       returnExtent (.ack .whole ⟨0#8, 0#12⟩) = some ⟨true, some .finish⟩ ∧
       returnExtent (.drainFrameDropped ⟨false, some .start⟩ []) = some ⟨false, some .start⟩) ∧
    (∀ received damaged, DrainReceiver.discarding ≠ .receiving received damaged) ∧
    ({ up with drainRx := .discarding }.Ready ∧ up.Ready ∧ up.drainRx = .awaitStart ∧
      returnExtent (.hold (.closing, ⟨0#8, 0#12⟩)) = some ⟨false, some .finish⟩) :=
  ⟨by decide +kernel, (fun _ _ h => nomatch h), by decide +kernel⟩

/-- The first six bytes of an ACK, of one with TAG 255 and its end, and a NOTE of 65 payload bytes. -/
theorem witness_ReturnsComeInParts :
    let bad : ReturnFields := ⟨255#8, 0#12⟩
    let note := framed 0x21#8 0#8 0 (0#8 :: List.replicate 65 0#8)
    up.Ready ∧ up.carrier = .up ∧
      returnFrame (.ack (.opening 6) ⟨5#8, 7#12⟩) = some (.opening 6, framed 0x11#8 5#8 7 []) ∧
      ¬ (headerOf (framed 0x11#8 5#8 7 [])).MalformedOnDrain ∧
      returnFrame (.ack (.opening 6) bad) = some (.opening 6, framed 0x11#8 255#8 0 []) ∧
      (headerOf (framed 0x11#8 255#8 0 [])).MalformedOnDrain ∧
      returnFrame (.consumerNote .whole ⟨0#12, 0#8, List.replicate 65 0#8⟩) = some (.whole, note) ∧
      (headerOf note).MalformedOnDrain ∧
      { up with drainRx := .skipping }.Ready ∧ returnFrame (.ack .closing bad) = some (.closing, framed 0x11#8 255#8 0 []) :=
  ⟨by decide +kernel, rfl, rfl, by unfold Header.MalformedOnDrain; decide +kernel, rfl, by unfold Header.MalformedOnDrain; decide +kernel,
    rfl, by unfold Header.MalformedOnDrain; decide +kernel, by decide +kernel, rfl⟩

theorem withStream_quiet (t : Tag) (x : Stream) (hx : x.timer ≠ .due) : (withStream t x).Quiet := by
  refine quiet_sending (fun h => nomatch h) (fun h => nomatch h) (fun v => ?_) (fun h => nomatch h) rfl
  unfold withStream
  rw [State.stream_setMapped, State.stream_setStream]
  split
  · exact hx
  · unfold State.stream sending up State.reset; simp only [Vector.getElem_ofFn]; exact fun h => nomatch h

theorem routes (t : Tag) (x : Stream) :
    (withStream t x).Routes (BitVec.ofNat 8 x.config.drainTag.val) t := by
  have h : (BitVec.ofNat 8 x.config.drainTag.val).toNat = x.config.drainTag.val := by
    rw [BitVec.toNat_ofNat]; exact Nat.mod_eq_of_lt (by have := x.config.drainTag.isLt; omega)
  refine ⟨⟨rfl, rfl⟩, rfl, by rw [h]; exact x.config.drainTag.isLt, ?_⟩
  simp only [h]; exact State.mapped_setMapped_self _ _ _

/-- Stream 5 with frames 4094 to 3 resident, of which all but the last have been sent. -/
def window : Stream := live 4 4094#12 6 5

theorem window_stream : (withStream 4 window).stream 4 = window := by
  unfold withStream; rw [State.stream_setMapped, State.stream_setStream_self]

/-- A stream under drain tag 5, whose returns are taken and routed. -/
abbrev Returns (x : Stream) : Prop := Takes (withStream 4 x) ∧ (withStream 4 x).Routes 5#8 4

theorem returns (x : Stream) (hx : x.timer ≠ .due) (hd : x.config.drainTag = ⟨5, by decide⟩) : Returns x :=
  ⟨fun _ => takes ⟨⟨rfl, rfl⟩, withStream_quiet 4 x hx⟩ rfl rfl _ _, by have h := routes 4 x; rw [hd] at h; exact h⟩

/-- ACKs of head and of the last serial before reach. -/
theorem witness_AckIsProgress :
    Returns window ∧ ((withStream 4 window).stream 4).state ≠ .closed ∧
      Serial.distance window.head 4094#12 < Serial.distance window.head window.reach ∧
      Serial.distance window.head 2#12 < Serial.distance window.head window.reach :=
  ⟨returns window (by decide) rfl, by rw [window_stream]; decide, by decide, by decide⟩

/-- The serials 2,048 after head and one before head; an ACK of reach, a REPLAY of the serial after it, and the serial 2,047 after head. -/
theorem witness_StaleAndAheadReturns :
    Returns window ∧ (withStream 4 window).stream 4 = window ∧
      (Serial.distance window.head window.reach < Serial.distance window.head 2046#12 ∧
        2048 ≤ Serial.distance window.head 2046#12) ∧ 2048 ≤ Serial.distance window.head 4093#12 ∧
      (Serial.distance window.head window.reach ≤ Serial.distance window.head 3#12 ∧ Serial.distance window.head 3#12 < 2048) ∧
      (Serial.distance window.head window.reach < Serial.distance window.head 4#12 ∧ Serial.distance window.head 4#12 < 2048) ∧
      Serial.distance window.head 2045#12 = 2047 :=
  ⟨returns window (by decide) rfl, window_stream, by decide, by decide, by decide, by decide, by decide⟩

/-- REPLAYs of the serial after head and of reach. -/
theorem witness_ReplayReleases :
    Returns window ∧ (withStream 4 window).stream 4 = window ∧ window.state ≠ .closed ∧
      (Serial.distance window.head 4095#12 = 1 ∧ Serial.distance window.head 4095#12 ≤ Serial.distance window.head window.reach) ∧
      Serial.distance window.head 3#12 = Serial.distance window.head window.reach :=
  ⟨returns window (by decide) rfl, window_stream, by decide, by decide, by decide⟩

/-- The five cases of a REPLAY at head. -/
theorem witness_ReplayAtHead :
    Returns window ∧ (withStream 4 window).stream 4 = window ∧ (window.cursor ≠ window.head ∧ window.Live) ∧
      { window with budget := 1 }.budget = 1 ∧ { window with budget := 0 }.budget = 0 ∧
      ((live 4 0#12 6 0).cursor = (live 4 0#12 6 0).head ∧ (live 4 0#12 6 0).Live) ∧
      (¬ { window with state := StreamState.halted }.Live ∧ { window with state := StreamState.halted }.state = .halted) ∧
      Returns { window with budget := 1 } ∧ Returns { window with budget := 0 } ∧ Returns { window with state := .halted } ∧
      Returns (live 4 0#12 6 0) :=
  ⟨returns window (by decide) rfl, window_stream, by decide, rfl, rfl, by decide, by decide, returns _ (by decide) rfl,
    returns _ (by decide) rfl, returns _ (by decide) rfl, returns _ (by decide) rfl⟩

theorem up_takes : Takes up := fun _ => takes (by decide +kernel) rfl rfl _ _

theorem witness_StrayReturnIsCounted : Takes up ∧ up.Strays 0#8 ∧ up.Strays 254#8 :=
  ⟨up_takes, ⟨by decide +kernel, rfl, by decide, by decide +kernel⟩, ⟨by decide +kernel, rfl, by decide, by decide +kernel⟩⟩

theorem witness_HoldAndResume : Returns window ∧ Takes up := ⟨returns window (by decide) rfl, up_takes⟩

/-- Five bytes; an ACK with TAG 255; an ACK cut short, with another frame's first byte held; an ACK without a check word; an ACK with a wrong
check word; a good ACK; a frame that is skipped. -/
theorem witness_DrainFrameDropped :
    let ack := [0x11#8, 5#8, 0#8, 0#8, 0#8, 0#8]
    let held := { up with drainRx := .receiving [0x11#8] false }
    let good := framed 0x11#8 5#8 0 []
    up.returnSoFar true (lane (good.map LaneByte.data)) = some (good, false) ∧
      good.length = 6 + (headerOf good).length.toNat + 4 ∧ ¬ (headerOf good).MalformedOnDrain ∧
      good.drop 6 = checkWordBytes (checkOutput (checkBytes checkInitial (good.take 6))) ∧
    up.Ready ∧ up.carrier = .up ∧ held.Ready ∧ { up with drainRx := .skipping }.Ready ∧
      held.returnSoFar false (lane [.undecodable]) = some ([0x11#8] ++ held.arrived (lane [.undecodable]), true) ∧
      up.returnSoFar true (lane (ack.map LaneByte.data)) = some (ack, false) ∧ (List.replicate 5 0#8).length < 6 ∧
      (headerOf [0x11#8, 255#8, 0#8, 0#8, 0#8, 0#8]).MalformedOnDrain ∧ ¬ (headerOf ack).MalformedOnDrain ∧
      ack.length ≠ 6 + (headerOf ack).length.toNat + 4 ∧
      (ack ++ [0#8, 0#8, 0#8, 0#8]).length = 6 + (headerOf ack).length.toNat + 4 ∧
      (ack ++ [0#8, 0#8, 0#8, 0#8]).drop 6 ≠ checkWordBytes (checkOutput (checkBytes checkInitial ack)) :=
  ⟨by decide +kernel, by decide, by unfold Header.MalformedOnDrain; decide +kernel, by decide +kernel, by decide +kernel, rfl, by decide +kernel, by decide +kernel, rfl, by decide +kernel, by decide,
    by unfold Header.MalformedOnDrain; decide +kernel, by unfold Header.MalformedOnDrain; decide +kernel, by decide, by decide,
    by decide +kernel⟩

/-! ### Witnesses: clock and carrier -/

/-- Counts of 2 and of 1, a FROZEN timer, SETTLING at 2 and at 1. -/
theorem witness_TickLowersCounts :
    (up.phase = .running ∧ up.Quiet) ∧ (withStream 4 { window with timer := .running 1 }).Quiet ∧
      { sending with carrier := Carrier.settling 1 }.Quiet ∧
      ((withStream 4 { window with timer := .running 2 }).stream 4).timer = .running 2 ∧
      ((withStream 4 { window with timer := .running 1 }).stream 4).timer = .running 1 ∧
      ((withStream 4 { window with timer := .frozen 1 }).stream 4).timer = .frozen 1 ∧
      { up with carrier := Carrier.settling 2 }.carrier = .settling 2 ∧
      { up with carrier := Carrier.settling 1 }.carrier = .settling 1 := by decide +kernel

theorem witness_ExpiryReplays :
    let s := { withStream 4 { window with timer := .due, budget := 1 } with atTick := true }
    (s.phase = .running ∧ (s.stream 4).timer = .due ∧ 0 < (s.stream 4).budget) ∧ s.Routes 5#8 4 ∧ s.atTick = true ∧
      (s.stream 4).Live := ⟨by decide +kernel, routes 4 { window with timer := .due, budget := 1 }, rfl, by decide +kernel⟩
theorem witness_ExpiryHalts :
    let s := { withStream 4 { window with timer := .due, budget := 0 } with atTick := true }
    (s.phase = .running ∧ (s.stream 4).timer = .due ∧ (s.stream 4).budget = 0 ∧ s.resetPin = .high) ∧ s.Routes 5#8 4 ∧
      s.atTick = true := ⟨by decide +kernel, routes 4 { window with timer := .due, budget := 0 }, rfl⟩

theorem witness_CarrierSettlesAndRestores :
    (let s := { up with carrierPin := false, carrier := .down }
     s.Ready ∧ s.carrier = .down ∧ s.carrier ≠ .up) ∧ up.Ready ∧ up.carrier ≠ .down ∧
      { up with carrier := Carrier.settled }.phase = .running ∧
      { up with carrier := Carrier.settled }.carrier = .settled ∧
      (((withStream 4 window).stream 4).Live ∧ ((withStream 4 window).stream 4).queue ≠ []) ∧
      ¬ ((up.stream 4).Live ∧ (up.stream 4).queue ≠ []) := by decide +kernel

/-- The outage; a transmission whose frame is no longer resident; none; and each state of the forward note. -/
theorem witness_CarrierLoss :
    outage.Ready ∧ outage.carrier = .up ∧
      outage.drainTx = some (.data (record 6 3 13#12) true ⟨7, by decide⟩ 13#12) ∧
      { outage with drainTx := some (.data (record 6 3 13#12) false ⟨7, by decide⟩ 13#12) }.drainTx =
        some (.data (record 6 3 13#12) false ⟨7, by decide⟩ 13#12) ∧
      (∀ r resident d x, up.drainTx ≠ some (.data r resident d x)) ∧
      outage.notes.forward = .awaitingTaken ⟨0#8, []⟩ ∧
      (noted (.sending ⟨1#8, []⟩ true) (some (.note ⟨1#8, []⟩))).notes.forward = .sending ⟨1#8, []⟩ true ∧
      up.notes.forward = .empty := ⟨by decide +kernel, rfl, rfl, rfl, (fun _ _ _ _ h => nomatch h), rfl, rfl, rfl⟩

/-! ### Witnesses: transmitters -/

theorem up_noNoteWaits (s : State) (h : s.notes = {}) : s.NoNoteWaits := by
  unfold State.NoNoteWaits; rw [h]; exact ⟨rfl, rfl, (fun _ h => nomatch h)⟩

/-- The first decision of the arbiter example, and the one that reloads the credits. -/
theorem witness_DataTransmissionStarts :
    (round.DrainFree ∧ round.NoNoteWaits ∧ round.ServesStream 4 1 ⟨8, 4, 1⟩ ∧
      (round.stream 4).queue[Serial.distance (round.stream 4).head (round.stream 4).cursor]? = some (record 4 0 0#12)) ∧
    (let s := { round with credits := ⟨0, 0, 0⟩, positions := { round.positions with class1 := 8 } }
     s.DrainFree ∧ s.NoNoteWaits ∧ s.ServesStream 4 1 ⟨8, 4, 1⟩) :=
  ⟨⟨⟨⟨rfl, rfl⟩, rfl, rfl⟩, up_noNoteWaits _ rfl,
    State.chooseData_eq_some (choice := ⟨4, 1, ⟨8, 4, 1⟩⟩) |>.1 (by decide +kernel), by decide +kernel⟩,
   ⟨⟨rfl, rfl⟩, rfl, rfl⟩, up_noNoteWaits _ rfl,
    State.chooseData_eq_some (choice := ⟨4, 1, ⟨8, 4, 1⟩⟩) |>.1 (by decide +kernel)⟩

/-- With the mark set and an IDLE timer, with the mark set and a RUNNING one, and with the mark clear. -/
theorem witness_DataTransmissionCompletes :
    let tx := fun resident => some (DrainTransmission.data (record 4 4 2#12) resident ⟨5, by decide⟩ 2#12)
    let idle := { window with timer := .idle }
    (∀ resident, { withStream 4 idle with drainTx := tx resident }.Ready) ∧
    { withStream 4 window with drainTx := tx true }.Ready ∧
    { withStream 4 idle with drainTx := tx true }.drainTx = tx true ∧
      (idle.Live ∧ 0 < Serial.distance idle.head idle.cursor ∧ idle.timer = .idle) ∧
      ¬ (window.Live ∧ 0 < Serial.distance window.head window.cursor ∧ window.timer = .idle) ∧
      { withStream 4 idle with drainTx := tx false }.drainTx = tx false :=
  ⟨by decide +kernel, by decide +kernel, rfl, by decide, by decide, rfl⟩

theorem witness_DrainNotesStartAndComplete :
    up.DrainFree ∧ { up.notes with doneToConsumer := some ⟨7#8, 1⟩ }.doneToConsumer = some ⟨7#8, 1⟩ ∧
      (up.notes.doneToConsumer = none ∧ { up.notes with refusedToConsumer := some ⟨7#8, 1⟩ }.refusedToConsumer = some ⟨7#8, 1⟩) ∧
      (up.notes.refusedToConsumer = none ∧ (noted (.waiting ⟨1#8, []⟩) none).notes.forward = .waiting ⟨1#8, []⟩) ∧
      { up with drainTx := some (.noteDone ⟨7#8, 1⟩ none) }.Ready ∧
      { up with drainTx := some (.noteDone ⟨7#8, 1⟩ none) }.drainTx = some (.noteDone ⟨7#8, 1⟩ none) ∧
      { up with drainTx := some (.noteRefused ⟨7#8, 1⟩ none) }.drainTx = some (.noteRefused ⟨7#8, 1⟩ none) ∧
      (∀ clear, (noted (.sending ⟨1#8, []⟩ clear) (some (.note ⟨1#8, []⟩))).Ready) ∧
      (∀ clear, (noted (.sending ⟨1#8, []⟩ clear) (some (.note ⟨1#8, []⟩))).drainTx = some (.note ⟨1#8, []⟩) ∧
        (noted (.sending ⟨1#8, []⟩ clear) (some (.note ⟨1#8, []⟩))).notes.forward = .sending ⟨1#8, []⟩ clear) :=
  ⟨⟨⟨rfl, rfl⟩, rfl, rfl⟩, rfl, ⟨rfl, rfl⟩, ⟨rfl, rfl⟩, by decide +kernel, rfl, rfl, by decide +kernel, fun _ => ⟨rfl, rfl⟩⟩

/-- An ACK that clears the mark of the frame in transmission; and the other transmissions during a tick. -/
theorem witness_TransmissionsGoOn :
    (let s := { withStream 4 window with drainTx := some (.data (record 4 0 4094#12) true ⟨5, by decide⟩ 4094#12) }
     exec (.ack .whole ⟨5#8, 4094#12⟩) s = .next (after (.ack .whole ⟨5#8, 4094#12⟩) s) ∧
       s.drainTx = some (.data (record 4 0 4094#12) true ⟨5, by decide⟩ 4094#12)) ∧
    (∀ tx ∈ [DrainTransmission.note ⟨1#8, []⟩, .noteDone ⟨7#8, 1⟩ none, .noteRefused ⟨7#8, 1⟩ none],
      { up with drainTx := some tx }.drainTx = some tx) ∧
    (let s := { up with feedTx := some (.flow .poolPause) }
     exec .tick s = .next (after .tick s) ∧ s.feedTx = some (.flow .poolPause)) :=
  ⟨⟨runs_next (by decide +kernel), rfl⟩, fun _ _ => rfl, runs_next (by decide +kernel), rfl⟩

/-- The pool's indications, and stream 1's after position 63 ahead of stream 63's. -/
theorem witness_FlowFrameStarts :
    up.FeedFree ∧ { up with pool := { up.pool with level := .low } }.pool.level = .low ∧ up.sentPool = .normal ∧
      (up.pool.level = .normal ∧ { up with sentPool := PoolLevel.low }.sentPool = .low) ∧ up.pool.level = up.sentPool ∧
      (let s := (up.setStream 0 { live 0 0#12 0 0 with flow := .paused }).setStream 62 { live 62 0#12 0 0 with flow := .paused }
       (s.stream 0).flow ≠ (s.stream 0).sentFlow ∧
         ∀ v, (s.stream v).flow ≠ (s.stream v).sentFlow → v ≠ 0 → searchTurns s.flowPosition 0 < searchTurns s.flowPosition v) :=
  ⟨⟨⟨rfl, rfl⟩, rfl⟩, rfl, rfl, ⟨rfl, rfl⟩, rfl, by decide +kernel⟩

theorem up_noFlowPending : up.NoFlowPending := by unfold State.NoFlowPending; decide +kernel

/-- Each candidate ahead of those after it. -/
theorem witness_FeedFramesStartInOrder :
    up.FeedFree ∧ up.NoFlowPending ∧ (up.notes.doneToProducer = none ∧ up.notes.refusedToProducer = none) ∧
      { up.notes with doneToProducer := some ⟨7#8, 1⟩ }.doneToProducer = some ⟨7#8, 1⟩ ∧
      { up.notes with refusedToProducer := some ⟨7#8, 1⟩ }.refusedToProducer = some ⟨7#8, 1⟩ ∧
      ((busy sending (req 1#8 0#8 [])).slots = [] ++ .answering answered ::
          [.executing (req 1#8 0#8 []), .queued (req 1#8 0#8 []), .queued (req 2#8 0#8 [])] ∧
        ∀ b : Response, Slot.answering b ∉ ([] : List Slot)) ∧
      (∀ a, Slot.answering a ∉ up.slots) ∧ { up.notes with back := NoteSlot.waiting ⟨1#8, []⟩ }.back = .waiting ⟨1#8, []⟩ ∧
      (∀ n, up.notes.back ≠ .waiting n) ∧ State.reset.events.queue = resetStartedRecord :: [] :=
  ⟨⟨⟨rfl, rfl⟩, rfl⟩, up_noFlowPending, ⟨rfl, rfl⟩, rfl, rfl, ⟨rfl, (fun _ h => nomatch h)⟩, (fun _ h => nomatch h), rfl,
    (fun _ h => nomatch h), rfl⟩

/-- The starts of the arbiter example and of DEVICE-STARTED; and a tick where nothing is owed. -/
theorem witness_StartsFollowTheArbiters :
    (exec .dataTransmissionStart round = .next (after .dataTransmissionStart round) ∧
      Instr.dataTransmissionStart.ownStep = true ∧ round.drainTx = none ∧ (after .dataTransmissionStart round).drainTx ≠ none) ∧
    (exec .eventFrameStart State.reset = .next (after .eventFrameStart State.reset) ∧ State.reset.feedTx = none ∧
      (after .eventFrameStart State.reset).feedTx ≠ none) ∧ up.Quiet :=
  ⟨⟨runs_next (by decide +kernel), rfl, rfl, by decide +kernel⟩, ⟨runs_next (by decide +kernel), rfl, by decide +kernel⟩,
    by decide +kernel⟩

/-- A DATA frame of 1,000 bytes in 16 cells, and a frame on the feed link. -/
theorem witness_SentFrameBytes :
    let tx := DrainTransmission.data (record 4 0 4094#12) true ⟨5, by decide⟩ 4094#12
    let s := { sending with drainTx := some tx }
    s.Awake ∧ s.feedTx = some (.flow .poolGo) ∧ s.drainTx = some tx ∧
      (record 4 0 4094#12).chain.length = ((record 4 0 4094#12).length + 63) / 64 ∧
      ¬ { s with resetPin := .lowShort }.Awake ∧ up.feedTx = none ∧ up.drainTx = none := by decide

/-- The three completions; the RESPONSE's slot stands first of four. -/
theorem witness_FeedFramesComplete :
    ({ up with feedTx := some (.flow .poolPause) }.Ready ∧
      { up with feedTx := some (.flow .poolPause) }.feedTx = some (.flow .poolPause) ∧
      (∀ a, FeedFrame.flow .poolPause ≠ .response a) ∧ ∀ n, FeedFrame.flow .poolPause ≠ .note n) ∧
    (∀ clear, let s := { up with feedTx := some (.note ⟨1#8, []⟩), notes := { up.notes with back := .sending ⟨1#8, []⟩ clear } }
      s.Ready ∧ s.feedTx = some (.note ⟨1#8, []⟩) ∧ s.notes.back = .sending ⟨1#8, []⟩ clear) ∧
    (let s := { busy up (req 1#8 0#8 []) with feedTx := some (.response answered) }
     s.Ready ∧ s.feedTx = some (.response answered) ∧ s.resetPending = false ∧
       s.slots = [] ++ .answering answered ::
         [.executing (req 1#8 0#8 []), .queued (req 1#8 0#8 []), .queued (req 2#8 0#8 [])] ∧
       ∀ b : Response, Slot.answering b ∉ ([] : List Slot)) :=
  ⟨⟨by decide +kernel, rfl, (fun _ h => nomatch h), (fun _ h => nomatch h)⟩,
    fun clear => ⟨by cases clear <;> decide +kernel, rfl, rfl⟩, by decide +kernel, rfl, rfl, rfl, (fun _ h => nomatch h)⟩

/-! ### Witnesses: requests -/

theorem streams_executing (t : Tag) (x : Stream) (hx : x.timer ≠ .due) (r : Request) :
    (busy (withStream t x) r).Executing r [answered] [req 1#8 0#8 [], req 2#8 0#8 []] :=
  busy_executing _ _ rfl (fun h => nomatch h) (fun h => nomatch h) (withStream_quiet t x hx).1 (fun h => nomatch h) rfl

/-- Commands 00h and 0Eh; target 64 of OPEN-STREAM; serial 4,096; stream 5 OPEN; and a drain tag that stream 5 holds. -/
theorem witness_RequestsAreRefusedInOrder :
    (busy sending (req 0x00#8 0#8 [])).Executing (req 0x00#8 0#8 []) [answered] [req 1#8 0#8 [], req 2#8 0#8 []] ∧
      ((req 0x00#8 0#8 []).TakenBy .unknownCommand ∧ (req 0x0E#8 0#8 []).TakenBy .unknownCommand) ∧
      ((req 0x06#8 64#8 []).TakenBy .openStream ∧ ¬ (req 0x06#8 64#8 []).GoodTarget) ∧
      ((req 0x0D#8 0#8 [0#8]).TakenBy .resetDevice ∧ (req 0x0D#8 0#8 [0#8]).GoodTarget ∧ ¬ (req 0x0D#8 0#8 [0#8]).GoodParameters) ∧
      ((req 0x06#8 5#8 []).TakenBy .openStream ∧ (req 0x06#8 5#8 []).GoodTarget ∧ (req 0x06#8 5#8 []).GoodParameters ∧
        (4 : Tag).number = (req 0x06#8 5#8 []).target.toNat ∧
        (req 0x06#8 5#8 []).BadStateFor ((withStream 4 window).stream 4)) ∧
      (let s := (withStream 4 window).setStream 7 { live 7 0#12 0 0 with config := resetConfig 4, state := .closed }
       (7 : Tag).number = (req 0x06#8 8#8 []).target.toNat ∧ (req 0x06#8 8#8 []).GoodTarget ∧ (s.stream 7).state = .closed ∧
         s.mapped (s.stream 7).config.drainTag = some 4) :=
  ⟨sending_executing _, ⟨rfl, rfl⟩, ⟨rfl, by show ¬ (1 ≤ 64 ∧ 64 ≤ 63); decide⟩,
    ⟨rfl, rfl, by show ¬ [0#8] = []; decide⟩,
    ⟨rfl, by show 1 ≤ 5 ∧ 5 ≤ 63; decide, .inl rfl, rfl, by rw [window_stream]; show window.state ≠ .closed; decide⟩,
    rfl, by show 1 ≤ 8 ∧ 8 ≤ 63; decide, by decide +kernel, by decide +kernel⟩

theorem witness_ReadsAnswerTheState :
    (∀ r, (busy sending r).Executing r [answered] [req 1#8 0#8 [], req 2#8 0#8 []]) ∧
      (1#8).toNat = (0 : Tag).number ∧ (63#8).toNat = (62 : Tag).number := ⟨fun _ => sending_executing _, rfl, rfl⟩

/-- The smallest and the largest settings record. -/
theorem witness_WriteSettingsReplacesTheRecord :
    (∀ r, (busy sending r).Executing r [answered] [req 1#8 0#8 [], req 2#8 0#8 []]) ∧
      { reserve := 0, hysteresis := 0, weights := ⟨1, 1, 1⟩, eventMask := 0x0001#16, settleTime := 1 : Settings }.Valid ∧
      { reserve := 4096, hysteresis := 1024, weights := ⟨16, 16, 16⟩, eventMask := 0x1FFF#16, settleTime := 255 : Settings }.Valid :=
  ⟨fun _ => sending_executing _, by unfold Settings.Valid; decide, by unfold Settings.Valid; decide⟩

/-- The smallest and the largest configuration, for a CLOSED stream, and one with the drain tag of an OPEN stream. -/
theorem witness_WriteStreamReplacesTheConfiguration :
    (∀ r, (busy (withStream 4 window) r).Executing r [answered] [req 1#8 0#8 [], req 2#8 0#8 []]) ∧
      (5#8).toNat = (4 : Tag).number ∧
      { drainTag := 0, streamClass := 0, window := 1, ackTimeout := 1, replayBudget := 0, highWatermark := 1, lowWatermark := 0,
        cellLimit := 1 : StreamConfig }.Valid ∧
      { drainTag := 254, streamClass := 3, window := 256, ackTimeout := 4095, replayBudget := 15, highWatermark := 8192,
        lowWatermark := 8191, cellLimit := 8192 : StreamConfig }.Valid ∧
      (up.stream 4).state = .closed ∧ (resetConfig 4).drainTag = ((withStream 4 window).stream 4).config.drainTag :=
  ⟨fun _ => streams_executing 4 _ (by decide) _, rfl, by unfold StreamConfig.Valid; decide, by unfold StreamConfig.Valid; decide,
    by decide +kernel, by rw [window_stream]; rfl⟩

theorem witness_StreamsOpenAndRestart :
    (∀ r, (busy sending r).Executing r [answered] [req 1#8 0#8 [], req 2#8 0#8 []]) ∧ (5#8).toNat = (4 : Tag).number ∧
      (up.stream 4).state = .closed ∧ up.mapped (up.stream 4).config.drainTag = none ∧
      ((withStream 4 { window with state := .halted }).stream 4).state = .halted :=
  ⟨fun _ => sending_executing _, rfl, by decide +kernel, by decide +kernel, by decide +kernel⟩

theorem witness_CloseStreamDrainsOrDiscards :
    (∀ r, (busy (withStream 4 window) r).Executing r [answered] [req 1#8 0#8 [], req 2#8 0#8 []]) ∧
      (5#8).toNat = (4 : Tag).number ∧ ((live 4 0#12 0 0).state = .opened ∧ (live 4 0#12 0 0).queue = []) ∧
      (window.state = .opened ∧ window.queue ≠ []) ∧ window.state ≠ .closed :=
  ⟨fun _ => streams_executing 4 _ (by decide) _, rfl, by decide, by decide, by decide⟩

theorem witness_FlushStreamEmpties :
    (∀ r, (busy (withStream 4 window) r).Executing r [answered] [req 1#8 0#8 [], req 2#8 0#8 []]) ∧
      (5#8).toNat = (4 : Tag).number ∧ ((withStream 4 window).stream 4).state ≠ .closed ∧
      (req 0x08#8 5#8 [0x0F#8, 0xFF#8]).parameters = twoBytes (4095#12).toNat :=
  ⟨fun _ => streams_executing 4 _ (by decide) _, rfl, by rw [window_stream]; decide, rfl⟩

theorem witness_ClearNoteClears :
    ∀ r slot, let s := { sending with notes := { up.notes with forward := slot } }
      (busy s r).Executing r [answered] [req 1#8 0#8 [], req 2#8 0#8 []] ∧
        (busy s (req 0x0B#8 0#8 [0#8])).notes.forward = slot :=
  fun _ _ => ⟨busy_executing _ _ rfl (fun h => nomatch h) (fun h => nomatch h)
    (by decide +kernel : ∀ t : Tag, (up.stream t).timer ≠ .due) (fun h => nomatch h) rfl, rfl⟩

theorem witness_DiscardAllEmptiesEveryStream :
    (∀ r, (busy (withStream 4 closing) r).Executing r [answered] [req 1#8 0#8 [], req 2#8 0#8 []]) ∧
      ((withStream 4 closing).stream 4).state = .draining ∧ (up.stream 4).state = .closed ∧ window.state = .opened :=
  ⟨fun _ => streams_executing 4 _ (by decide) _, by decide +kernel, by decide +kernel, rfl⟩

/-! ### Witnesses: the whole part -/

/-- POOL-NORMAL is masked by default; 15 records and 16; a lost count of 65,534 and of 65,535. -/
theorem witness_EventsAreMaskedQueuedOrLost :
    up.settings.enables .poolNormal = false ∧ up.settings.enables .poolLow = true ∧
      (List.replicate 15 resetStartedRecord).length < 16 ∧ 16 ≤ (List.replicate 16 resetStartedRecord).length ∧
      { queue := [], lost := 65534 : EventBlock }.lost < 65535 ∧ { queue := [], lost := 65535 : EventBlock }.lost = 65535 := by
  decide +kernel

theorem witness_OwnersAloneChange :
    exec .tick sending = .next (after .tick sending) ∧ (∀ straps, Instr.tick ≠ .deviceReset straps) ∧
      (∀ straps, Instr.tick ≠ .responseComplete straps) ∧ Instr.tick ≠ .writeSettings ∧ Instr.tick ≠ .writeStream ∧
      ((withStream 4 window).stream 4).state ≠ .closed :=
  ⟨runs_next (by decide +kernel), (fun _ h => nomatch h), (fun _ h => nomatch h), (fun h => nomatch h), (fun h => nomatch h),
    by rw [window_stream]; decide⟩

theorem witness_AttnFollowsHaltAndPool : up.phase = .running ∧ up.resetPin = .high := ⟨rfl, rfl⟩

theorem up_stream (t : Tag) : up.stream t = { config := resetConfig t, budget := (resetConfig t).replayBudget } := by
  unfold State.stream up State.reset; simp only [Vector.getElem_ofFn]

/-- The part with the carrier UP and a tick that waits. -/
def ticking : State := { up with pending := [.tick] }

theorem ticking_inRange : ticking.InRange := by
  refine ⟨fun t => ?_, rfl, trivial, ⟨by decide, by decide, by decide⟩, ⟨trivial, trivial, ?_, ?_, ?_, ?_⟩, trivial, trivial,
    trivial, by decide, by decide +kernel, ⟨by decide, by decide, fun h => absurd h (by decide)⟩⟩
  · show (up.stream t).InRange
    rw [up_stream]
    refine ⟨?_, Nat.le_refl _, trivial⟩
    have h := t.isLt
    unfold StreamConfig.inRange configInRange resetConfig
    simp only [Bool.and_eq_true, decide_eq_true_eq]
    refine ⟨⟨⟨⟨⟨⟨⟨⟨⟨?_, ?_⟩, ?_⟩, ?_⟩, ?_⟩, ?_⟩, ?_⟩, ?_⟩, ?_⟩, ?_⟩ <;> omega
  all_goals exact (fun _ h => nomatch h)

/-- The part with the carrier UP, at a tick. -/
theorem witness_EveryStepKeepsRanges :
    ticking.InRange ∧ step ticking = .next (after .tick up) :=
  ⟨ticking_inRange, by show exec .tick up = _; exact runs_next (by decide +kernel)⟩

theorem ticking_lawful : ticking.Lawful := by
  intro _
  have hs : ∀ t, ticking.stream t =
      { config := resetConfig t, budget := (resetConfig t).replayBudget } := up_stream
  have hq : ticking.streams.toList.flatMap (fun x => x.queue) = [] := by
    rw [List.flatMap_eq_nil_iff]
    intro x hx
    obtain ⟨t, rfl⟩ := (State.mem_streams _).1 hx
    rw [hs]
  have hm : ∀ d, ticking.mapped d = none := fun d => by
    show up.mapped d = none
    unfold State.mapped up State.reset; simp only [Vector.getElem_ofFn]
  have hfill : ticking.fillingRecord = none := rfl
  have hdefer : ticking.deferredRecord = none := rfl
  have hpool : ticking.pool = { freeCells := List.range 8192, freeRecords := List.range 2048, level := .normal } := rfl
  refine ⟨fun t => ?_, fun d t => ?_, ?_, ?_, fun t => ?_, (fun _ h => nomatch h), (fun _ _ _ h => nomatch h), fun h => absurd rfl h,
    fun _ => rfl, fun _ => by decide, fun n => ⟨(fun ⟨_, h⟩ => nomatch h), (fun h => nomatch h)⟩, fun n => ⟨(fun ⟨_, h⟩ => nomatch h), (fun h => nomatch h)⟩,
    trivial, (fun _ _ _ h => nomatch h), (fun _ h => nomatch h), fun h => absurd (State.tickOwes_eq_false.2 ⟨fun t => by rw [hs]; exact Timer.noConfusion, Carrier.noConfusion⟩) (by rw [h]; decide)⟩
  · rw [hs]
    refine ⟨⟨rfl, (by decide : Serial.distance 0#12 0#12 = 0), Nat.le_refl _, (by decide : Serial.distance 0#12 0#12 ≤ 0), Nat.zero_le _,
        (by decide : Serial.distance 0#12 0#12 ≤ 256)⟩,
      ⟨(fun h => nomatch h), (fun _ h => nomatch h), fun h => absurd rfl h⟩, fun _ => ⟨rfl, rfl, rfl, rfl, rfl, rfl, rfl⟩,
      (fun h => nomatch h), ⟨(fun h => nomatch h), (fun h => nomatch h)⟩, (fun h => nomatch h), (fun _ h => nomatch h)⟩
  · rw [hs, hm]; simp
  · unfold State.CellLaw State.heldRecords
    rw [hq, hfill, hdefer, hpool]; simp
  · unfold State.RecordLaw State.heldRecords
    rw [hq, hfill, hdefer, hpool]; simp
  · rw [hs]; rfl

theorem witness_EveryStepKeepsLaws :
    ticking.InRange ∧ ticking.Lawful ∧
      step ticking = .next (after .tick up) :=
  ⟨ticking_inRange, ticking_lawful, by show exec .tick up = _; exact runs_next (by decide +kernel)⟩

end Sys2Proof.Tests
end

section
/-!
OPEN-STREAM and RESTART-STREAM (O50). An opening and a restart as replacements of one record and one map entry, what the two requests
answer where they are accepted, and the effect steps assembled from these.
-/

namespace Sys2Proof.Machine

/-! ### One record replaced -/

theorem State.setStream_setStream (s : State) (t : Tag) (x y : Stream) :
    (s.setStream t x).setStream t y = s.setStream t y := by
  simp only [State.setStream, Vector.set_set]

theorem State.setMapped_setStream (s : State) (d : DrainTag) (e : Option Tag) (t : Tag) (x : Stream) :
    (s.setMapped d e).setStream t x = (s.setStream t x).setMapped d e := rfl

/-- R10: an opening replaces the stream's record and the map entry of its drain tag, and nothing else. -/
theorem State.openAt_eq (s : State) (t : Tag) (serial : Serial) :
    s.openAt t serial =
      (s.setStream t ((s.stream t).openedAt serial)).setMapped (s.stream t).config.drainTag (some t) := by
  have hrecord : (s.openAt t serial).stream t = (s.stream t).openedAt serial := by
    rw [State.stream_openAt, if_pos rfl]
  have hlast : s.openAt t serial =
      ((s.updateStream t fun x => x.opening serial).setMapped (s.stream t).config.drainTag (some t)).setStream t
        ((s.openAt t serial).stream t) := by
    unfold State.openAt State.evaluateFlow
    rw [State.stream_updateStream_self, State.updateStream_eq]
  rw [hlast, hrecord, State.setMapped_setStream, State.updateStream_eq, State.setStream_setStream]

/-! ### Requests that are accepted -/

theorem streamTarget_eq_some {target : Byte} {t : Tag} : streamTarget? target = some t ↔ target.toNat = t.number :=
  tagOfNumber_eq_some.trans eq_comm

section
variable {s : State} {r : Request} {t : Tag}

/-- R8, R10, R18: a CLOSED stream whose drain tag is free is opened at the given serial, or at 0 where the request gives none. -/
theorem answerOpenStream_of_closed (ht : r.target.toNat = t.number) {start : Serial}
    (hp : r.parameters = twoBytes start.toNat ∨ (r.parameters = [] ∧ start = 0#12))
    (hstate : (s.stream t).state = .closed) (hfree : s.mapped (s.stream t).config.drainTag = none) :
    answerOpenStream r s = .ok (s.openAt t start) (twoBytes start.toNat) := by
  obtain ⟨given, hgiven, hstart⟩ : ∃ given, optionalSerial? r.parameters = some given ∧ given.getD 0#12 = start := by
    rcases hp with hp | ⟨hp, rfl⟩
    · exact ⟨some start, optionalSerial_eq_some.2 (.inr ⟨start, rfl, hp⟩), rfl⟩
    · exact ⟨none, optionalSerial_eq_some.2 (.inl ⟨rfl, hp⟩), rfl⟩
  simp only [answerOpenStream, streamTarget_eq_some.2 ht, hgiven, hstate, hfree, hstart, serialBytes_eq, ne_eq,
    not_true_eq_false, if_false]

/-- R16, R21: a HALTED stream is restarted at head. -/
theorem answerRestartStream_of_halted (ht : r.target.toNat = t.number) (hp : r.parameters = [])
    (hstate : (s.stream t).state = .halted) :
    answerRestartStream r s =
      .ok (s.setStream t (s.stream t).restart) (twoBytes (s.stream t).head.toNat) := by
  simp only [answerRestartStream, streamTarget_eq_some.2 ht, hp, hstate, serialBytes_eq, State.updateStream_eq, ne_eq,
    not_true_eq_false, if_false]

/-- R147: the effect step of a request that is answered OK by an effect that leaves the management engine alone. -/
theorem State.effectStep_of_ok {answered : List Response} {queued : List Request} (h : s.Executing r answered queued)
    (mnemonic : String) {takes : Request → Bool} {effect : Request → State → Answer} {u : State} {result : List Byte}
    (htakes : takes r = true) (heffect : effect r s = .ok u result) (hslots : u.slots = s.slots)
    (hreset : u.resetPending = s.resetPending) :
    s.effectStep mnemonic takes effect =
      .next { u with slots := answeredSlots answered (r.response .ok result) queued s.resetPending } := by
  rw [State.effectStep_eq h mnemonic takes effect htakes (by rw [heffect]; exact hslots), heffect, ← hreset]
  rfl

/-- R10, R18: OPEN-STREAM. -/
theorem exec_openStream_of_closed {answered : List Response} {queued : List Request} (h : s.Executing r answered queued)
    (hcommand : r.command = 0x06#8) (ht : r.target.toNat = t.number) {start : Serial}
    (hp : r.parameters = twoBytes start.toNat ∨ (r.parameters = [] ∧ start = 0#12))
    (hstate : (s.stream t).state = .closed) (hfree : s.mapped (s.stream t).config.drainTag = none) :
    exec .openStream s = .next {
      (s.setStream t ((s.stream t).openedAt start)).setMapped (s.stream t).config.drainTag (some t) with
      slots := answeredSlots answered (r.response .ok (twoBytes start.toNat)) queued s.resetPending } := by
  have htakes : (r.command == commandOpenStream) = true := beq_iff_eq.2 hcommand
  rw [← State.openAt_eq]
  exact State.effectStep_of_ok h "OPEN_STREAM" htakes (answerOpenStream_of_closed ht hp hstate hfree)
    (State.openAt_slots ..) (State.openAt_resetPending ..)

/-- R16, R21: RESTART-STREAM. -/
theorem exec_restartStream_of_halted {answered : List Response} {queued : List Request} (h : s.Executing r answered queued)
    (hcommand : r.command = 0x09#8) (ht : r.target.toNat = t.number) (hp : r.parameters = [])
    (hstate : (s.stream t).state = .halted) :
    exec .restartStream s = .next { s.setStream t (s.stream t).restart with
      slots := answeredSlots answered (r.response .ok (twoBytes (s.stream t).head.toNat)) queued s.resetPending } := by
  have htakes : (r.command == commandRestartStream) = true := beq_iff_eq.2 hcommand
  exact State.effectStep_of_ok h "RESTART_STREAM" htakes (answerRestartStream_of_halted ht hp hstate)
    (State.setStream_slots ..) (State.setStream_resetPending ..)

end

/-- Settles O50: OPEN-STREAM through `State.openAt_eq`, RESTART-STREAM through `Stream.restart`. -/
theorem streamsOpenAndRestart : Obligations.StreamsOpenAndRestart := by
  intro s r answered queued t h ht
  exact ⟨fun _ hcommand hp hstate hfree => exec_openStream_of_closed h hcommand ht hp hstate hfree,
    fun hcommand hp hstate => exec_restartStream_of_halted h hcommand ht hp hstate⟩

end Sys2Proof.Machine
end

section
/-!
Good DATA frames (O14). An undamaged frame's end as its payload stored and the frame decided, and the decision for an OPEN stream as one
record replaced.
-/

namespace Sys2Proof.Machine

section
variable {s : State} {symbols : List LaneSymbol} {record : FrameRecord} {received : List Byte} {running : CheckWord}
  {payload : List Byte}

/-- R31, R51: a good frame whose stream is OPEN is appended at the tail. -/
theorem State.endData_good_of_opened (h : (s.stream record.stream).state = .opened) :
    s.endData record .good = s.setStream record.stream ((s.stream record.stream).append record) :=
  if_pos h

/-- R50, R51, R174: an undamaged frame of the declared length passes the integrity tests, and exactly its payload is stored. -/
theorem exec_dataFrameEnd_of_goodBytes (h : s.Ready) (hf : s.feedRx = .storing record received running false)
    (hl : payload.length = record.length)
    (hb : received.map LaneByte.data ++ laneBytes symbols = goodBytes running payload) :
    exec (.dataFrameEnd symbols) s =
      .next (((s.storeBytes record payload).endData record .good).setFeedRx .awaitStart) := by
  obtain ⟨hundecoded, hvalues⟩ := goodBytes_split hb s.freeCount
  have hexec := State.execDataFrameEnd_ready (symbols := symbols) h hf
  rw [State.arrived, hvalues, hundecoded, bne_self_eq_false, Bool.or_false, frameVerdict_goodBytes running payload _ hl,
    framePayload_goodBytes running payload _ hl, State.drawFree_zero] at hexec
  exact hexec

end

/-- Settles O14: the frame's end stores the payload and replaces the record of its stream by the appended one; neither touches
anything else. -/
theorem goodDataFrameIsAppended : Obligations.GoodDataFrameIsAppended := by
  intro s symbols record received running payload h hf hl hb hopened
  have hend := State.endData_good_of_opened (s := s.storeBytes record payload) (record := record) hopened
  refine ⟨_, exec_dataFrameEnd_of_goodBytes h hf hl hb, State.setFeedRx_self _ _, ?_⟩
  rw [hend]
  refine ⟨rfl, ?appended, ?others, rfl⟩
  case appended => exact State.stream_setStream_self _ _ _
  case others => exact fun v hv => State.stream_setStream_ne _ _ hv

end Sys2Proof.Machine
end

section
/-!
What ACK and REPLAY share: the stream that a good return is handed to, the class of its serial (R68, R69), and the returns that are stale
or ahead (O26).
-/

namespace Sys2Proof.Machine

section
variable {s a : State} {part : FramePart} {d : Byte} {serial : Serial} {t : Tag}

/-! ### Routing (R9, R122) -/

theorem State.Routes.streamOf (h : a.Routes d t) : a.streamOf d = some t := by
  obtain ⟨-, -, hd, ht⟩ := h
  exact (dif_pos hd).trans ht

theorem State.Routes.ne_broadcast (h : a.Routes d t) : d ≠ 255#8 := by
  obtain ⟨-, -, hd, -⟩ := h
  rintro rfl
  exact absurd hd (by decide)

/-- R68, R122: a good ACK is handed to the stream behind its drain tag. -/
theorem exec_ack_routed (h : s.TakesReturn part (framed 0x11#8 d serial.toNat []) a) (hr : a.Routes d t) :
    exec (.ack part ⟨d, serial⟩) s = .next (a.takeAck t d serial) :=
  (execAck_taken h hr.ne_broadcast).trans (by rw [hr.streamOf])

/-- R69, R122: a good REPLAY is handed to the stream behind its drain tag. -/
theorem exec_replay_routed (h : s.TakesReturn part (framed 0x12#8 d serial.toNat []) a) (hr : a.Routes d t) :
    exec (.replay part ⟨d, serial⟩) s = .next (a.takeReplay t d serial) :=
  (execReplay_taken h hr.ne_broadcast).trans (by rw [hr.streamOf])

/-! ### Classes (R68, R69) -/

theorem State.takeAck_of_progress
    (h : Serial.distance (a.stream t).head serial < Serial.distance (a.stream t).head (a.stream t).reach) :
    a.takeAck t d serial = a.ackProgress t serial := by
  have hclass : (a.stream t).classifyAck serial = .taken := if_pos h
  simp only [State.takeAck, hclass]

theorem State.takeReplay_of_accepted
    (h : Serial.distance (a.stream t).head serial ≤ Serial.distance (a.stream t).head (a.stream t).reach) :
    a.takeReplay t d serial = a.replayAccepted t serial := by
  have hclass : (a.stream t).classifyReplay serial = .taken := if_pos h
  simp only [State.takeReplay, hclass]

theorem State.takeAck_of_stale
    (h : Serial.distance (a.stream t).head (a.stream t).reach ≤ Serial.distance (a.stream t).head serial)
    (hfar : 2048 ≤ Serial.distance (a.stream t).head serial) : a.takeAck t d serial = a.staleReturn t := by
  have hclass : (a.stream t).classifyAck serial = .stale := (if_neg (Nat.not_lt.2 h)).trans (if_pos hfar)
  simp only [State.takeAck, hclass]

theorem State.takeReplay_of_stale
    (h : Serial.distance (a.stream t).head (a.stream t).reach < Serial.distance (a.stream t).head serial)
    (hfar : 2048 ≤ Serial.distance (a.stream t).head serial) : a.takeReplay t d serial = a.staleReturn t := by
  have hclass : (a.stream t).classifyReplay serial = .stale := (if_neg (Nat.not_le.2 h)).trans (if_pos hfar)
  simp only [State.takeReplay, hclass]

theorem State.takeAck_of_ahead
    (h : Serial.distance (a.stream t).head (a.stream t).reach ≤ Serial.distance (a.stream t).head serial)
    (hnear : Serial.distance (a.stream t).head serial < 2048) :
    a.takeAck t d serial = a.aheadReturn t .ackAhead d serial := by
  have hclass : (a.stream t).classifyAck serial = .ahead :=
    (if_neg (Nat.not_lt.2 h)).trans (if_neg (Nat.not_le.2 hnear))
  simp only [State.takeAck, hclass]

theorem State.takeReplay_of_ahead
    (h : Serial.distance (a.stream t).head (a.stream t).reach < Serial.distance (a.stream t).head serial)
    (hnear : Serial.distance (a.stream t).head serial < 2048) :
    a.takeReplay t d serial = a.aheadReturn t .replayAhead d serial := by
  have hclass : (a.stream t).classifyReplay serial = .ahead :=
    (if_neg (Nat.not_le.2 h)).trans (if_neg (Nat.not_le.2 hnear))
  simp only [State.takeReplay, hclass]

/-! ### Stale and ahead returns (R70, R71) -/

/-- R71: an ahead return touches the event block alone. -/
theorem State.aheadReturn_eq (a : State) (t : Tag) (kind : EventKind) (d : Byte) (serial : Serial) :
    a.aheadReturn t kind d serial = { a with
      events := a.settings.record a.events
        { kind := kind, streamTag := BitVec.ofNat 8 t.number, drainTag := d, serial := serial.setWidth 16
          detail := (a.stream t).reach.setWidth 16 } } :=
  State.raise_eq ..

end

/-- Settles O26: the class of the serial decides, for either kind of return. -/
theorem staleAndAheadReturns : Obligations.StaleAndAheadReturns := by
  intro s a part d serial t hroutes
  refine ⟨fun htaken houtside => ⟨fun hfar => ?ackStale, fun hnear => ?ackAhead⟩,
    fun htaken houtside => ⟨fun hfar => ?replayStale, fun hnear => ?replayAhead⟩⟩
  case ackStale => rw [exec_ack_routed htaken hroutes, State.takeAck_of_stale houtside hfar]; rfl
  case ackAhead => rw [exec_ack_routed htaken hroutes, State.takeAck_of_ahead houtside hnear, State.aheadReturn_eq]
  case replayStale => rw [exec_replay_routed htaken hroutes, State.takeReplay_of_stale houtside hfar]; rfl
  case replayAhead => rw [exec_replay_routed htaken hroutes, State.takeReplay_of_ahead houtside hnear, State.aheadReturn_eq]

end Sys2Proof.Machine
end

section
/-!
ACK progress (O25) and REPLAY progress (O27). Both release frames, set the pointers and reload; what they make of the stream's record
is said once for each, and `Released.finish` gives the rest of the step.
-/

namespace Sys2Proof.Machine

/-! ### A release with its stream's record set further (R80) -/

/-- R80: the first k frames released, and the other fields of the stream's record set by f. -/
theorem State.released_update (s : State) (t : Tag) (k : Nat) (f : Stream → Stream) (after : Stream)
    (hf : f ((s.release t k).stream t) = { after with
      queue := (s.stream t).queue.drop k, occupancy := (s.stream t).occupancy - cellsOf ((s.stream t).queue.take k) })
    (hstate : after.state = (s.stream t).state) (hconfig : after.config = (s.stream t).config)
    (hflow : after.flow = (s.stream t).flow) : Released s ((s.release t k).updateStream t f) t k after where
  frame := rfl
  self := (State.stream_updateStream_self ..).trans hf
  others v hv := by rw [State.stream_updateStream_ne _ _ hv, State.stream_release, if_neg hv]
  state := hstate
  config := hconfig
  flow := hflow

theorem State.updateStream_updateStream (s : State) (t : Tag) (f g : Stream → Stream) :
    (s.updateStream t f).updateStream t g = s.updateStream t fun x => g (f x) := by
  simp only [State.updateStream, State.stream_setStream_self, State.setStream_setStream]

/-- R78, R80: what a release does is the same before and after a counter of the stream moves. -/
theorem State.release_countStream (s : State) (t : Tag) (k : Nat) (f : StreamCounters → StreamCounters) :
    (s.countStream t f).release t k = (s.release t k).updateStream t fun x => { x with counters := f x.counters } := by
  have hrecord : (s.countStream t f).stream t = { s.stream t with counters := f (s.stream t).counters } :=
    State.stream_updateStream_self ..
  simp only [State.release, hrecord]
  simp only [State.countStream, State.updateStream_updateStream]
  simp only [State.updateStream, State.stream_handBack, State.stream_setStream_self]
  simp only [State.handBack, State.setStream, Vector.set_set]
  rfl

/-! ### ACK progress (R72, R73) -/

theorem Serial.distance_succ {a b : Serial} (h : Serial.distance a b < 4095) :
    Serial.distance a (b + 1#12) = Serial.distance a b + 1 := by
  unfold Serial.distance at *
  bv_omega

/-- R72: the cursor where it is pulled along, else where it was. -/
theorem Stream.pullCursor_eq (x : Stream) (oldHead : Serial) :
    x.pullCursor oldHead = { x with
      cursor := if Serial.distance oldHead x.cursor < Serial.distance oldHead x.head then x.head else x.cursor } := by
  unfold Stream.pullCursor
  split <;> rfl

/-- R73: progress reloads the budget and sets the timer on an OPEN or DRAINING stream, and changes no other. -/
theorem Stream.progress_if_live (x : Stream) :
    (if x.state.live then x.progress else x) = { x with
      budget := if x.Live then x.config.replayBudget else x.budget
      timer := if x.Live then (if 0 < x.inWindow then Timer.load x.config.ackTimeout x.held else .idle) else x.timer } := by
  simp only [StreamState.live_iff]
  split <;> rfl

/-- R72, R73: what an ACK that is progress makes of the released record of a stream whose head it found at `oldHead`. -/
def Stream.acknowledge (y : Stream) (oldHead serial : Serial) : Stream :=
  let moved := ({ y with head := serial + 1#12 } : Stream).pullCursor oldHead
  if moved.state.live then moved.progress else moved

/-- R72, R73: the stream's record after an ACK that is progress, but for the frames that it releases. -/
def Stream.acknowledged (x : Stream) (serial : Serial) : Stream :=
  let cursor := if Serial.distance x.head x.cursor ≤ Serial.distance x.head serial then serial + 1#12 else x.cursor
  { x with
    head := serial + 1#12
    cursor := cursor
    budget := if x.Live then x.config.replayBudget else x.budget
    timer :=
      if x.Live then
        if 0 < Serial.distance (serial + 1#12) cursor then
          if x.held then .frozen x.config.ackTimeout else .running x.config.ackTimeout
        else .idle
      else x.timer }

theorem Stream.acknowledge_eq (x : Stream) {serial : Serial} (h : Serial.distance x.head serial < 4095)
    (queue : List FrameRecord) (occupancy : Nat) (head : Serial) :
    ({ x with queue := queue, occupancy := occupancy, head := head } : Stream).acknowledge x.head serial =
      { x.acknowledged serial with queue := queue, occupancy := occupancy } := by
  refine (Stream.progress_if_live _).trans ?_
  simp only [Stream.pullCursor_eq, Serial.distance_succ h, Nat.lt_succ_iff]
  rfl

theorem State.ackProgress_eq (s : State) (t : Tag) (serial : Serial) :
    s.ackProgress t serial =
      ((s.release t (Serial.distance (s.stream t).head serial + 1)).updateStream t
        fun y => y.acknowledge (s.stream t).head serial).finishRelease t .drained (s.stream t).occupancy
        s.pool.freeCells.length :=
  congrArg (State.finishRelease · t .drained _ _) (State.updateStream_updateStream ..)

/-- R72, R73, R80, R81: an ACK that is progress is a release step. -/
theorem State.releaseStep_ackProgress (s : State) (t : Tag) (serial : Serial) (hstate : (s.stream t).state ≠ .closed)
    (h : Serial.distance (s.stream t).head serial < Serial.distance (s.stream t).head (s.stream t).reach) :
    ReleaseStep s (s.ackProgress t serial) t (Serial.distance (s.stream t).head serial + 1)
      ((s.stream t).acknowledged serial) 0x0001#16 := by
  have hmax : Serial.distance (s.stream t).head serial < 4095 := by
    have hreach : Serial.distance (s.stream t).head (s.stream t).reach < 4096 := BitVec.isLt _
    omega
  rw [State.ackProgress_eq]
  refine (State.released_update s t _ _ ((s.stream t).acknowledged serial) ?_ rfl rfl rfl).finish hstate .drained
  rw [State.stream_release, if_pos rfl]
  exact Stream.acknowledge_eq _ hmax _ _ _

/-- Settles O25: a routed ACK below reach is `State.ackProgress`, which is a release step. -/
theorem ackIsProgress : Obligations.AckIsProgress := by
  intro s a part d serial t htaken hroutes hstate x m cursor hprogress
  refine ⟨a.ackProgress t serial, ?_, State.releaseStep_ackProgress a t serial hstate hprogress⟩
  rw [exec_ack_routed htaken hroutes, State.takeAck_of_progress hprogress]

/-! ### REPLAY progress (R76, R78) -/

/-- R76, R78: what an accepted REPLAY that names a serial after head makes of the released record of its stream. -/
def Stream.replay (y : Stream) (serial : Serial) : Stream :=
  let moved : Stream := { y with
    head := serial, cursor := serial, counters := { y.counters with peerReplays := y.counters.peerReplays + 1#32 } }
  if moved.state.live then { moved with budget := moved.config.replayBudget, timer := .idle } else moved

/-- R76, R78: the stream's record after an accepted REPLAY that names a serial after head, but for the frames that it releases. -/
def Stream.replayed (x : Stream) (serial : Serial) : Stream :=
  { x with
    head := serial
    cursor := serial
    budget := if x.Live then x.config.replayBudget else x.budget
    timer := if x.Live then .idle else x.timer
    counters := { x.counters with peerReplays := x.counters.peerReplays + 1#32 } }

theorem Stream.replay_eq (x : Stream) (serial : Serial) (queue : List FrameRecord) (occupancy : Nat) (head : Serial) :
    ({ x with queue := queue, occupancy := occupancy, head := head } : Stream).replay serial =
      { x.replayed serial with queue := queue, occupancy := occupancy } := by
  simp only [Stream.replay, Stream.replayed, StreamState.live_iff]
  split <;> rfl

theorem State.replayAccepted_eq (s : State) (t : Tag) (serial : Serial) (h : Serial.distance (s.stream t).head serial ≠ 0) :
    s.replayAccepted t serial =
      ((s.release t (Serial.distance (s.stream t).head serial)).updateStream t
        fun y => y.replay serial).finishRelease t .drained (s.stream t).occupancy s.pool.freeCells.length := by
  unfold State.replayAccepted
  rw [if_neg h]
  have hrecord (f : StreamCounters → StreamCounters) :
      (s.countStream t f).stream t = { s.stream t with counters := f (s.stream t).counters } :=
    State.stream_updateStream_self ..
  simp only [State.replayRelease, hrecord, State.release_countStream, State.updateStream_updateStream]
  rfl

/-- R76, R78, R80, R81: an accepted REPLAY that names a serial after head is a release step. -/
theorem State.releaseStep_replayAccepted (s : State) (t : Tag) (serial : Serial) (hstate : (s.stream t).state ≠ .closed)
    (h : 0 < Serial.distance (s.stream t).head serial) :
    ReleaseStep s (s.replayAccepted t serial) t (Serial.distance (s.stream t).head serial)
      ((s.stream t).replayed serial) 0x0001#16 := by
  rw [State.replayAccepted_eq s t serial (Nat.ne_of_gt h)]
  refine (State.released_update s t _ _ ((s.stream t).replayed serial) ?_ rfl rfl rfl).finish hstate .drained
  rw [State.stream_release, if_pos rfl]
  exact Stream.replay_eq ..

/-- Settles O27: a routed REPLAY after head is a release step. -/
theorem replayReleases : Obligations.ReplayReleases := by
  intro s a part d serial t htaken hroutes hstate x m hafter haccepted
  refine ⟨a.replayAccepted t serial, ?_, State.releaseStep_replayAccepted a t serial hstate hafter⟩
  rw [exec_replay_routed htaken hroutes, State.takeReplay_of_accepted haccepted]

end Sys2Proof.Machine
end

section
/-!
REPLAY at head (O28). One equation for each case of R77, of a state whose stream t has the record x.
-/

namespace Sys2Proof.Machine

@[simp] theorem Serial.distance_self (x : Serial) : Serial.distance x x = 0 := by simp [Serial.distance]

/-- R69, R78: the record of a stream to which an accepted REPLAY has come. -/
def Stream.replayCounted (x : Stream) : Stream :=
  { x with counters := { x.counters with peerReplays := x.counters.peerReplays + 1#32 } }

/-- R69, R77: a REPLAY that names head is accepted, counted, and releases nothing. -/
theorem State.takeReplay_head (a : State) (t : Tag) (d : Byte) :
    a.takeReplay t d (a.stream t).head =
      (a.setStream t (a.stream t).replayCounted).replayAtHead t (a.stream t).head := by
  rw [State.takeReplay_of_accepted (by simp)]
  exact if_pos (Serial.distance_self _)

section
variable {x : Stream} (s : State) (t : Tag)

theorem State.replayAtHead_atCursor_live (hcursor : x.cursor = x.head) (hlive : x.Live) :
    (s.setStream t x).replayAtHead t x.head = s.setStream t { x with timer := .idle } := by
  simp only [State.replayAtHead, State.stream_setStream_self, State.setStream_setStream, hcursor, if_true,
    (StreamState.live_iff x).2 hlive]

theorem State.replayAtHead_atCursor_halted (hcursor : x.cursor = x.head) (hlive : ¬ x.Live) :
    (s.setStream t x).replayAtHead t x.head = s.setStream t x := by
  simp only [State.replayAtHead, State.stream_setStream_self, hcursor, if_true, mt (StreamState.live_iff x).1 hlive,
    Bool.false_eq_true, if_false]

theorem State.replayAtHead_paid (hcursor : x.cursor ≠ x.head) (hlive : x.Live) (hbudget : 0 < x.budget) :
    (s.setStream t x).replayAtHead t x.head =
      s.setStream t { x with budget := x.budget - 1, cursor := x.head, timer := .idle } := by
  simp only [State.replayAtHead, State.stream_setStream_self, State.setStream_setStream, hcursor, if_false,
    (StreamState.live_iff x).2 hlive, if_true, hbudget]

/-- R14: halting replaces the stream's record and raises STREAM-HALTED. -/
theorem State.halt_setStream (cause : HaltCause) :
    (s.setStream t x).halt t cause =
      { s.setStream t { x with state := .halted, timer := .idle, closeRequested := false } with
        events := s.settings.record s.events (haltedRecord t x cause.detail) } := by
  simp only [State.halt, State.updateStream_eq, State.setStream_setStream, State.stream_setStream_self, State.raise_eq]
  rfl

theorem State.replayAtHead_unpaid (hcursor : x.cursor ≠ x.head) (hlive : x.Live) (hbudget : x.budget = 0) :
    (s.setStream t x).replayAtHead t x.head =
      { s.setStream t { x with state := .halted, timer := .idle, closeRequested := false } with
        events := s.settings.record s.events (haltedRecord t x 0x0002#16) } := by
  refine Eq.trans ?_ (State.halt_setStream s t .peerReplay)
  simp only [State.replayAtHead, State.stream_setStream_self, hcursor, if_false, (StreamState.live_iff x).2 hlive, if_true,
    hbudget, Nat.lt_irrefl]

theorem State.replayAtHead_halted (hcursor : x.cursor ≠ x.head) (hstate : x.state = .halted) :
    (s.setStream t x).replayAtHead t x.head = s.setStream t { x with cursor := x.head } := by
  simp only [State.replayAtHead, State.stream_setStream_self, State.setStream_setStream, hcursor, if_false, hstate,
    StreamState.live, Bool.false_eq_true]

end

/-- Settles O28: the five cases of R77 on the counted record, which differs from the stream's in a counter alone. -/
theorem replayAtHead : Obligations.ReplayAtHead := by
  intro s a part d t htaken hroutes x replay counted
  have hreplay : replay = .next ((a.setStream t counted).replayAtHead t counted.head) :=
    (exec_replay_routed htaken hroutes).trans (congrArg _ (State.takeReplay_head a t d))
  rw [hreplay]
  refine ⟨fun hcursor hlive => ?free, fun hcursor hlive => ?haltedAtHead, fun hcursor hlive hbudget => ?paid,
    fun hcursor hlive hbudget => ?unpaid, fun hcursor hstate => ?halted⟩
  case free => exact congrArg _ (State.replayAtHead_atCursor_live a t hcursor hlive)
  case haltedAtHead => exact congrArg _ (State.replayAtHead_atCursor_halted a t hcursor hlive)
  case paid => exact congrArg _ (State.replayAtHead_paid a t hcursor hlive hbudget)
  case unpaid => exact congrArg _ (State.replayAtHead_unpaid a t hcursor hlive hbudget)
  case halted => exact congrArg _ (State.replayAtHead_halted a t hcursor hstate)

end Sys2Proof.Machine
end

section
/-!
DATA transmissions that complete (O38).
-/

namespace Sys2Proof.Machine

section
variable {s : State} {record : FrameRecord} {resident : Bool} {d : DrainTag} {serial : Serial}

theorem State.setStream_stream (s : State) (t : Tag) : s.setStream t (s.stream t) = s := by
  simp only [State.setStream, State.stream, Vector.set_getElem_self]

/-- R64: the timer is loaded where every condition holds. -/
theorem Stream.completed_eq (x : Stream) :
    x.completed = if x.Live ∧ 0 < Serial.distance x.head x.cursor ∧ x.timer = .idle then x.loadTimer else x := by
  unfold Stream.completed Stream.inWindow
  simp only [Bool.and_eq_true, StreamState.live_iff, decide_eq_true_eq, beq_iff_eq, and_assoc]

/-- R34, R36: a deferred return gives the record's cells and number back to the pool, and the pool's evaluation follows. -/
theorem State.deferredReturn_frame (s : State) (record : FrameRecord) :
    s.deferredReturn record = { s with
      pool := (s.deferredReturn record).pool, events := (s.deferredReturn record).events } := by
  apply State.ext <;> simp [State.deferredReturn]

theorem State.poolFollows_deferredReturn (s : State) (record : FrameRecord) :
    PoolFollows s (s.deferredReturn record) s.events :=
  poolFollows_evaluatePoolFrom (m := { s with pool := s.pool.giveBack [record] }) rfl rfl

/-- R64, R110: the completion of the DATA frame in transmission. -/
theorem exec_dataTransmissionComplete (h : s.Ready) (htx : s.drainTx = some (.data record resident d serial)) :
    exec .dataTransmissionComplete s = .next (s.completeData record resident) := by
  show execDataTransmissionComplete s = _
  rw [execDataTransmissionComplete, State.onTransmission_ready _ h]
  simp only [htx]

/-- R64: the mark set: the transmitter is free and the stream's record is that of a completion. -/
theorem State.completeData_resident (s : State) (record : FrameRecord) :
    s.completeData record true =
      { s.setStream record.stream (s.stream record.stream).completed with drainTx := none } := rfl

/-- R34: the mark clear: the transmitter is free and the record is returned. -/
theorem State.completeData_deferred (s : State) (record : FrameRecord) :
    s.completeData record false = State.deferredReturn { s with drainTx := none } record := rfl

end

/-- Settles O38: the completion by its mark, and with the mark set by the conditions of R64. -/
theorem dataTransmissionCompletes : Obligations.DataTransmissionCompletes := by
  intro s record d serial hready x loads
  refine ⟨fun htx hloads => ?loaded, fun htx hloads => ?kept, fun htx => ?deferred⟩
  case loaded =>
    rw [exec_dataTransmissionComplete hready htx, State.completeData_resident, Stream.completed_eq, if_pos hloads]
    rfl
  case kept =>
    rw [exec_dataTransmissionComplete hready htx, State.completeData_resident, Stream.completed_eq, if_neg hloads,
      State.setStream_stream]
  case deferred =>
    refine ⟨_, exec_dataTransmissionComplete hready htx, ?_⟩
    rw [State.completeData_deferred]
    refine ⟨?cells, ?records, State.poolFollows_deferredReturn _ record, State.deferredReturn_frame _ record⟩
    case cells => simp [State.deferredReturn]
    case records => simp [State.deferredReturn]

end Sys2Proof.Machine
end

section
/-!
FLUSH-STREAM (O52): a release of every resident frame, with the pointers brought to one serial.
-/

namespace Sys2Proof.Machine

section
variable {s : State} {r : Request} {t : Tag} {serial : Serial}

/-- R83, R84: a flush leaves no resident frame, so that the close of a drained stream is the close of a DRAINING one. -/
theorem State.flush_eq (s : State) (t : Tag) (serial : Serial) :
    s.flush t serial =
      ((s.releaseAll t).updateStream t fun y => y.collapse serial).finishRelease t .flushed (s.stream t).occupancy
        s.pool.freeCells.length := by
  have hself := (State.released_emptied s t (fun _ => serial) fun _ _ _ _ => rfl).self
  have hstate : (((s.releaseAll t).updateStream t fun y => y.collapse serial).stream t).state = (s.stream t).state :=
    hself ▸ rfl
  have hqueue : (((s.releaseAll t).updateStream t fun y => y.collapse serial).stream t).queue = [] :=
    hself ▸ List.drop_length
  simp only [State.flush, State.finishRelease, State.closeIfDrained, hstate, hqueue, and_true]

/-- R82, R83, R84: a flush is a release step. -/
theorem State.releaseStep_flush (hstate : (s.stream t).state ≠ .closed) :
    ReleaseStep s (s.flush t serial) t (s.stream t).queue.length ((s.stream t).collapse serial) 0x0002#16 := by
  rw [State.flush_eq]
  exact (State.released_emptied s t (fun _ => serial) fun _ _ _ _ => rfl).finish hstate .flushed

theorem ReleaseStep.frame {u : State} {k : Nat} {after : Stream} {outcome : BitVec 16}
    (h : ReleaseStep s u t k after outcome) :
    u = { s with streams := u.streams, drainMap := u.drainMap, pool := u.pool, drainTx := u.drainTx, events := u.events } := by
  obtain ⟨-, -, -, hframe⟩ := h
  exact hframe

/-- R82, R83: a stream that is not CLOSED is flushed to the given serial, or to its tail where the request gives none. -/
theorem answerFlushStream_of_not_closed (ht : r.target.toNat = t.number)
    (hp : r.parameters = twoBytes serial.toNat ∨ (r.parameters = [] ∧ serial = (s.stream t).tail))
    (hstate : (s.stream t).state ≠ .closed) :
    answerFlushStream r s =
      .ok (s.flush t serial) (twoBytes serial.toNat ++ twoBytes (s.stream t).queue.length) := by
  obtain ⟨given, hgiven, hserial⟩ :
      ∃ given, optionalSerial? r.parameters = some given ∧ given.getD (s.stream t).tail = serial := by
    rcases hp with hp | ⟨hp, rfl⟩
    · exact ⟨some serial, optionalSerial_eq_some.2 (.inr ⟨serial, rfl, hp⟩), rfl⟩
    · exact ⟨none, optionalSerial_eq_some.2 (.inl ⟨rfl, hp⟩), rfl⟩
  simp only [answerFlushStream, streamTarget_eq_some.2 ht, hgiven, hstate, hserial, serialBytes_eq, numberBytes_eq, if_false]

end

/-- Settles O52: the request is accepted, and the flush is a release step. -/
theorem flushStreamEmpties : Obligations.FlushStreamEmpties := by
  intro s r answered queued t serial hexecuting hcommand ht x hp hstate
  have hstep : ReleaseStep s (s.flush t serial) t _ ((s.stream t).collapse serial) 0x0002#16 :=
    State.releaseStep_flush hstate
  have htakes : (r.command == commandFlushStream) = true := beq_iff_eq.2 hcommand
  exact ⟨s.flush t serial,
    State.effectStep_of_ok hexecuting "FLUSH_STREAM" htakes (answerFlushStream_of_not_closed ht hp hstate)
      (by rw [hstep.frame]) (by rw [hstep.frame]), hstep⟩

end Sys2Proof.Machine
end

section
/-!
Stray returns (O29): a good return whose drain tag has no entry is handed to no stream.
-/

namespace Sys2Proof.Machine

section
variable {s a : State} {part : FramePart} {d : Byte} {serial : Serial}

/-! ### Drain tags without an entry (R9, R123) -/

theorem State.Strays.streamOf (h : a.Strays d) : a.streamOf d = none := by
  obtain ⟨-, -, hd, hnone⟩ := h
  exact (dif_pos hd).trans hnone

theorem State.Strays.ne_broadcast (h : a.Strays d) : d ≠ 255#8 := by
  obtain ⟨-, -, hd, -⟩ := h
  rintro rfl
  exact absurd hd (by decide)

/-- R123: a stray return touches the port counters and the event block alone. -/
theorem State.strayReturn_eq (a : State) (kind d : Byte) (sent : BitVec 16) :
    a.strayReturn kind d sent = { a with
      port := { a.port with drainStray := a.port.drainStray + 1#32 }
      events := a.settings.record a.events
        { kind := .strayReturn, streamTag := 0#8, drainTag := d, serial := sent, detail := kind.setWidth 16 } } :=
  State.raise_eq ..

/-! ### The four kinds (R122, R123) -/

theorem exec_ack_stray (h : s.TakesReturn part (framed 0x11#8 d serial.toNat []) a) (hs : a.Strays d) :
    exec (.ack part ⟨d, serial⟩) s = .next (a.strayReturn kindAck d (serial.setWidth 16)) :=
  (execAck_taken h hs.ne_broadcast).trans (by rw [hs.streamOf]; rfl)

theorem exec_replay_stray (h : s.TakesReturn part (framed 0x12#8 d serial.toNat []) a) (hs : a.Strays d) :
    exec (.replay part ⟨d, serial⟩) s = .next (a.strayReturn kindReplay d (serial.setWidth 16)) :=
  (execReplay_taken h hs.ne_broadcast).trans (by rw [hs.streamOf]; rfl)

/-- R123, R175: a HOLD's SERIAL is not used, and its event carries FFFFh in the serial's place. -/
theorem exec_hold_stray (h : s.TakesReturn part (framed 0x13#8 d serial.toNat []) a) (hs : a.Strays d) :
    exec (.hold (part, ⟨d, serial⟩)) s = .next (a.strayReturn kindHold d 0xFFFF#16) :=
  (execHold_taken h).trans (by rw [if_neg hs.ne_broadcast, hs.streamOf])

/-- R123, R175: a RESUME's SERIAL is not used, and its event carries FFFFh in the serial's place. -/
theorem exec_resume_stray (h : s.TakesReturn part (framed 0x14#8 d serial.toNat []) a) (hs : a.Strays d) :
    exec (.resume (part, ⟨d, serial⟩)) s = .next (a.strayReturn kindResume d 0xFFFF#16) :=
  (execResume_taken h).trans (by rw [if_neg hs.ne_broadcast, hs.streamOf])

end

/-- Settles O29: each kind of return, where its drain tag has no entry, is `State.strayReturn`. -/
theorem strayReturnIsCounted : Obligations.StrayReturnIsCounted := by
  intro s a part d serial hstrays
  refine ⟨fun htaken => ?ack, fun htaken => ?replay, fun htaken => ?hold, fun htaken => ?resume⟩
  case ack => rw [exec_ack_stray htaken hstrays, State.strayReturn_eq]; rfl
  case replay => rw [exec_replay_stray htaken hstrays, State.strayReturn_eq]; rfl
  case hold => rw [exec_hold_stray htaken hstrays, State.strayReturn_eq]; rfl
  case resume => rw [exec_resume_stray htaken hstrays, State.strayReturn_eq]; rfl

end Sys2Proof.Machine
end

section
/-!
What a command that answers a next state can have done, said once for all commands: an own step, a step that finds everything owed done,
or an effect on the state that the command finds. The statements about every command are derived from these cases.
-/

namespace Sys2Proof.Machine

/-! ### The part's own steps (R90, R102, R112, R170) -/

/-- R112: the command that carries out a choice of the drain arbiter. -/
def DrainChoice.starter : DrainChoice → Instr
  | .noteDone _ => .drainIndicationStart
  | .noteRefused _ => .drainIndicationStart
  | .forwardNote _ => .forwardNoteStart
  | .data _ => .dataTransmissionStart

/-- R170: the command that carries out a choice of the feed arbiter. -/
def FeedChoice.starter : FeedChoice → Instr
  | .flow _ => .flowFrameStart
  | .noteDone _ => .feedIndicationStart
  | .noteRefused _ => .feedIndicationStart
  | .response _ => .responseStart
  | .backNote _ => .backNoteStart
  | .event _ => .eventFrameStart

/-- R61: where the drain arbiter chooses a stream, its queue holds the frame at its cursor. -/
def State.HasFrame (s : State) (k : DrainChoice) : Prop :=
  ∀ choice, k = .data choice → (s.stream choice.stream).frameAtCursor ≠ none

/-- What the part's own steps do. -/
inductive OwnEffect : Instr → State → State → Prop where
  | expiry {s : State} (t : Tag) (hphase : s.phase = .running) (hdue : (s.stream t).timer = .due) :
      OwnEffect (.timerExpiry t) s (s.expire t)
  | settled {s : State} (hphase : s.phase = .running) (hsettled : s.carrier = .settled) :
      OwnEffect .carrierSettled s s.carrierUp
  | drain {s : State} (k : DrainChoice) (hdecision : s.drainDecision = some k) (hframe : s.HasFrame k) :
      OwnEffect k.starter s s.decideDrain
  | feed {s : State} (k : FeedChoice) (hdecision : s.feedDecision = some k) : OwnEffect k.starter s s.decideFeed

/-! ### Power, RESET_N, device reset and the tick -/

/-- What power, RESET_N and a tick do to the state that `State.settle` leaves. -/
inductive AloneEffect : Instr → State → State → Prop where
  | powerUp {s : State} (high : Bool) :
      AloneEffect (.powerUp high) s (s.holdInReset (if high then .high else .low))
  | longPulse {s : State} : AloneEffect (.resetNLow .atLeast1us) s (s.holdInReset .low)
  | shortPulse {s : State} : AloneEffect (.resetNLow .under1us) s s.shortPulse
  | reset {s : State} (straps : Straps) (hpin : s.resetPin = .high) :
      AloneEffect (.deviceReset straps) s (s.deviceReset straps)
  | risen {s : State} (straps : Straps) (hpin : s.resetPin = .low) :
      AloneEffect (.deviceReset straps) s ({ s with resetPin := .high }.deviceReset straps)
  | shortPulseEnd {s : State} (straps : Straps) (hpin : s.resetPin = .lowShort) :
      AloneEffect (.deviceReset straps) s (s.endShortPulse straps)
  | tick {s : State} (hphase : s.phase = .running) : AloneEffect .tick s s.tick
  | tickHeld {s : State} (hphase : s.phase = .inReset) : AloneEffect .tick s s

/-! ### Input from the feed link (R40 to R57) -/

/-- R57: the command that ends a staged frame of a kind, and where it hands its payload. -/
def stagedHandOn : Instr → Option (Byte × (List Byte → State → State))
  | .requestArrival _ => some (kindRequest, fun payload s => s.requestArrives (requestOf payload))
  | .producerNote _ => some (kindNote, fun payload s => s.forwardNoteArrives (noteOf payload))
  | .producerNoteTaken _ => some (kindNoteTaken, fun payload s => s.backNoteTaken (payload.headD 0#8))
  | _ => none

/-- What input from the feed link does while the part takes it. -/
inductive FeedEffect : Instr → State → State → Prop where
  | header {s : State} {symbols : List LaneSymbol} {bytes : List Byte} {damaged : Bool}
      (hbytes : s.sinceStart symbols = some (bytes, damaged)) :
      FeedEffect (.feedHeader symbols) s ((s.drawFree (undecodedIn symbols)).takeHeader bytes damaged)
  | dataEnd {s : State} {symbols : List LaneSymbol} {record : FrameRecord} {received : List Byte} {running : CheckWord}
      {damaged : Bool} (hrx : s.feedRx = .storing record received running damaged) (verdict : FrameVerdict) :
      FeedEffect (.dataFrameEnd symbols) s
        ((((s.drawFree (undecodedIn symbols)).storeBytes record
          (framePayload record.length (received ++ s.arrived symbols))).endData record verdict).setFeedRx .awaitStart)
  | cutHeader {s : State} {symbols : List LaneSymbol} {bytes : List Byte} {damaged : Bool} (marker : Marker)
      (hbytes : s.sinceStart symbols = some (bytes, damaged)) :
      FeedEffect (.feedFrameCutShort marker symbols) s
        ((s.drawFree (undecodedIn symbols)).countFeedMalformed.setFeedRx (FeedReceiver.afterCut marker))
  | cutStoring {s : State} {symbols : List LaneSymbol} {record : FrameRecord} {received : List Byte} {running : CheckWord}
      {damaged : Bool} (hrx : s.feedRx = .storing record received running damaged) :
      FeedEffect (.feedFrameCutShort .start symbols) s
        (((((s.drawFree (undecodedIn symbols)).storeBytes record
          ((received ++ s.arrived symbols).take record.length)).returnReservation record).countFeedMalformed).setFeedRx
            (.header [] false))
  | cutStaging {s : State} {symbols : List LaneSymbol} {header : Header} {received : List Byte} {running : CheckWord}
      {damaged : Bool} (hrx : s.feedRx = .staging header received running damaged) :
      FeedEffect (.feedFrameCutShort .start symbols) s
        ((s.drawFree (undecodedIn symbols)).countFeedMalformed.setFeedRx (.header [] false))
  | cutSkipping {s : State} {symbols : List LaneSymbol} {skipped : Nat} (hrx : s.feedRx = .skipping skipped) :
      FeedEffect (.feedFrameCutShort .start symbols) s ((s.drawFree (undecodedIn symbols)).setFeedRx (.header [] false))
  | ignored {s : State} {symbols : List LaneSymbol} (hrx : s.feedRx = .awaitStart) :
      FeedEffect (.feedFrameIgnored symbols) s s
  | skipped {s : State} {symbols : List LaneSymbol} {skipped : Nat} (hrx : s.feedRx = .skipping skipped) :
      FeedEffect (.skippingFrameEnd symbols) s ((s.drawFree (undecodedIn symbols)).setFeedRx .awaitStart)
  | stagedMalformed {s : State} {c : Instr} {header : Header} {received : List Byte} {running : CheckWord} {damaged : Bool}
      (hrx : s.feedRx = .staging header received running damaged) (hc : (stagedHandOn c).isSome) (drawn : Nat) :
      FeedEffect c s (((s.drawFree drawn).setFeedRx .awaitStart).countFeedMalformed)
  | stagedCheckError {s : State} {c : Instr} {header : Header} {received : List Byte} {running : CheckWord} {damaged : Bool}
      (hrx : s.feedRx = .staging header received running damaged) (hc : (stagedHandOn c).isSome) (drawn : Nat) :
      FeedEffect c s (((s.drawFree drawn).setFeedRx .awaitStart).countFeedCheckError)
  | stagedGood {s : State} {c : Instr} {header : Header} {received : List Byte} {running : CheckWord} {damaged : Bool}
      (hrx : s.feedRx = .staging header received running damaged) {handOn : List Byte → State → State}
      (hc : stagedHandOn c = some (header.kind, handOn)) {payload : List Byte} (hlength : payload.length = header.length.toNat)
      (drawn : Nat) : FeedEffect c s (handOn payload ((s.drawFree drawn).setFeedRx .awaitStart))

/-! ### Input from the drain link (R106, R121, R122) -/

/-- R122: a good frame of a row of the drain link, between its markers, and where it is routed. -/
def routedFrame : Instr → Option (List Byte × (State → State))
  | .ack _ x => some (frameBytes kindAck x.drainTag x.serial [], fun s =>
      match s.streamOf x.drainTag with
      | some t => s.takeAck t x.drainTag x.serial
      | none => s.strayReturn kindAck x.drainTag (Serial.field x.serial))
  | .replay _ x => some (frameBytes kindReplay x.drainTag x.serial [], fun s =>
      match s.streamOf x.drainTag with
      | some t => s.takeReplay t x.drainTag x.serial
      | none => s.strayReturn kindReplay x.drainTag (Serial.field x.serial))
  | .hold (_, x) => some (frameBytes kindHold x.drainTag x.serial [], fun s =>
      if x.drainTag = 255#8 then s.mapStreams fun y => if y.state = .closed then y else y.hold
      else
        match s.streamOf x.drainTag with
        | some t => s.updateStream t Stream.hold
        | none => s.strayReturn kindHold x.drainTag 0xFFFF#16)
  | .resume (_, x) => some (frameBytes kindResume x.drainTag x.serial [], fun s =>
      if x.drainTag = 255#8 then s.mapStreams fun y => if y.state = .closed then y else y.resume
      else
        match s.streamOf x.drainTag with
        | some t => s.updateStream t Stream.resume
        | none => s.strayReturn kindResume x.drainTag 0xFFFF#16)
  | .consumerNote _ x => some (frameBytes kindNote 0#8 x.serial (x.number :: x.payload), fun s =>
      s.backNoteArrives { number := x.number, payload := x.payload })
  | .consumerNoteTaken (_, x) => some (frameBytes kindNoteTaken 0#8 x.serial [x.number], fun s => s.forwardNoteTaken x.number)
  | _ => none

/-- What input from the drain link does while the part takes it. -/
inductive ReturnEffect : Instr → State → State → Prop where
  | held {s : State} {c : Instr} (hc : c.origin = .drainLink) (opens : Bool) (symbols : List LaneSymbol) :
      ReturnEffect c s (s.receive opens symbols)
  | restarted {s : State} {c : Instr} (hc : c.origin = .drainLink) (opens : Bool) (symbols : List LaneSymbol) :
      ReturnEffect c s (s.receive opens symbols).returnStarts
  | ended {s : State} {c : Instr} (hc : c.origin = .drainLink) (opens : Bool) (symbols : List LaneSymbol) :
      ReturnEffect c s ((s.receive opens symbols).setDrainRx .awaitStart)
  | malformed {s : State} {c : Instr} (hc : c.origin = .drainLink) (opens : Bool) (symbols : List LaneSymbol) :
      ReturnEffect c s ((s.receive opens symbols).setDrainRx .awaitStart).countDrainMalformed
  | checkError {s : State} {c : Instr} (hc : c.origin = .drainLink) (opens : Bool) (symbols : List LaneSymbol) :
      ReturnEffect c s ((s.receive opens symbols).setDrainRx .awaitStart).countDrainCheckError
  | routed {s : State} {c : Instr} {frame : List Byte} {effect : State → State} (hc : routedFrame c = some (frame, effect))
      (opens : Bool) (symbols : List LaneSymbol) {damaged : Bool}
      (hrx : (s.receive opens symbols).drainRx = .receiving frame damaged) (hgood : dropCause? frame damaged = none) :
      ReturnEffect c s (effect ((s.receive opens symbols).setDrainRx .awaitStart))

/-! ### Completions (R64, R110, R136, R137, R140, R148, R171) -/

/-- What the end of a transmission does. -/
inductive CompletionEffect : Instr → State → State → Prop where
  | data {s : State} {record : FrameRecord} {resident : Bool} {d : DrainTag} {x : Serial}
      (htx : s.drainTx = some (.data record resident d x)) :
      CompletionEffect .dataTransmissionComplete s (s.completeData record resident)
  | forwardNote {s : State} {n : Note} (htx : s.drainTx = some (.note n)) :
      CompletionEffect .forwardNoteComplete s
        { s with drainTx := none, notes := { s.notes with forward := s.notes.forward.complete } }
  | noteDone {s : State} {sent : Indication} {tally : Option Indication} (htx : s.drainTx = some (.noteDone sent tally)) :
      CompletionEffect .drainIndicationComplete s { s with drainTx := none, notes := { s.notes with doneToConsumer := tally } }
  | noteRefused {s : State} {sent : Indication} {tally : Option Indication} (htx : s.drainTx = some (.noteRefused sent tally)) :
      CompletionEffect .drainIndicationComplete s { s with drainTx := none, notes := { s.notes with refusedToConsumer := tally } }
  | resetting {s : State} {r : Response} (straps : Straps) (htx : s.feedTx = some (.response r)) (hends : s.endsInReset r = true) :
      CompletionEffect (.responseComplete straps) s (s.deviceReset straps)
  | response {s : State} {r : Response} (straps : Straps) (htx : s.feedTx = some (.response r)) (hends : s.endsInReset r = false) :
      CompletionEffect (.responseComplete straps) s { s with feedTx := none, slots := freeOldestAnswer s.slots }
  | backNote {s : State} {n : Note} (htx : s.feedTx = some (.note n)) :
      CompletionEffect .backNoteComplete s { s with feedTx := none, notes := { s.notes with back := s.notes.back.complete } }
  | feedFrame {s : State} {f : FeedFrame} (htx : s.feedTx = some f) (hresponse : ∀ r, f ≠ .response r) (hnote : ∀ n, f ≠ .note n) :
      CompletionEffect .feedFrameComplete s { s with feedTx := none }

/-! ### Requests (R147) -/

/-- R176: what the effect step of a command answers to a request. -/
def requestEffect : Instr → Option (Request → State → Answer)
  | .identify => some answerIdentify
  | .readSettings => some answerReadSettings
  | .writeSettings => some answerWriteSettings
  | .readStream => some answerReadStream
  | .writeStream => some answerWriteStream
  | .openStream => some answerOpenStream
  | .closeStreamDrain => some answerCloseStream
  | .closeStreamDiscard => some answerCloseStream
  | .flushStream => some answerFlushStream
  | .restartStream => some answerRestartStream
  | .readCounters => some answerReadCounters
  | .clearNote => some answerClearNote
  | .discardAll => some answerDiscardAll
  | .resetDevice => some answerResetDevice
  | .unknownCommand => some answerUnknown
  | _ => none

/-! ### Every command that is not alone and not an own step -/

/-- What such a command does to the state that it finds. -/
inductive BesideEffect : Instr → State → State → Prop where
  | notTaken {s : State} {c : Instr} (hc : c.origin = .feedLink ∨ c.origin = .drainLink) (hawake : ¬ s.Awake) : BesideEffect c s s
  | feed {s u : State} {c : Instr} (hawake : s.Awake) (h : FeedEffect c s u) : BesideEffect c s u
  | drain {s u : State} {c : Instr} (hawake : s.Awake) (h : ReturnEffect c s u) : BesideEffect c s u
  | complete {s u : State} {c : Instr} (hawake : s.Awake) (h : CompletionEffect c s u) : BesideEffect c s u
  | carrier {s : State} (present : Bool) :
      BesideEffect (if present then .carrierPresent else .carrierAbsent) s (s.setCarrierPin present)
  | answer {s : State} {c : Instr} {effect : Request → State → Answer} {r : Request} (hc : requestEffect c = some effect)
      (hphase : s.phase = .running) (hr : executingRequest s.slots = some r) :
      BesideEffect c s ((effect r s).state.answer r (effect r s).status (effect r s).result)

/-! ### Inversion -/

section
variable {s t : State} {c : Instr}

theorem BesideEffect.of_feedInput {effect : State → Result} (hc : c.origin = .feedLink)
    (h : s.onInput effect = .next t) (he : s.found.Awake → effect s.found = .next t → FeedEffect c s.found t) :
    BesideEffect c s.found t := by
  unfold State.onInput State.besideOwed at h
  dsimp only at h
  split at h
  · next ha => exact .feed ha (he ha h)
  · next ha => cases h; exact .notTaken (.inl hc) ha

theorem BesideEffect.of_drainInput {effect : State → Result} (hc : c.origin = .drainLink)
    (h : s.onInput effect = .next t) (he : effect s.found = .next t → ReturnEffect c s.found t) :
    BesideEffect c s.found t := by
  unfold State.onInput State.besideOwed at h
  dsimp only at h
  split at h
  · next ha => exact .drain ha (he h)
  · next ha => cases h; exact .notTaken (.inr hc) ha

/-- R40 to R50: what FEED_HEADER does. -/
theorem BesideEffect.of_feedHeader {symbols : List LaneSymbol} (h : execFeedHeader symbols s = .next t) :
    BesideEffect (.feedHeader symbols) s.found t := by
  refine BesideEffect.of_feedInput rfl h fun _ he => ?_
  revert he
  generalize s.found = f
  intro he
  dsimp only at he
  split at he
  case h_1 hrx => cases he; exact .header (by simp only [State.sinceStart, hrx])
  case h_2 hrx => cases he; exact .header (by simp only [State.sinceStart, hrx])
  all_goals cases he

theorem BesideEffect.of_dataFrameEnd {symbols : List LaneSymbol} (h : execDataFrameEnd symbols s = .next t) :
    BesideEffect (.dataFrameEnd symbols) s.found t := by
  refine BesideEffect.of_feedInput rfl h fun _ he => ?_
  revert he
  generalize s.found = f
  intro he
  dsimp only at he
  split at he
  case h_1 hrx => cases he; exact .dataEnd hrx _
  all_goals cases he

theorem FeedEffect.of_cutHeader {f : State} {marker : Marker} {symbols : List LaneSymbol} {bytes : List Byte} {damaged : Bool}
    (hbytes : f.sinceStart symbols = some (bytes, damaged))
    (h : (f.drawFree (undecodedIn symbols)).cutHeader marker bytes = .next t) :
    FeedEffect (.feedFrameCutShort marker symbols) f t := by
  unfold State.cutHeader at h
  split at h
  · cases h; exact .cutHeader marker hbytes
  · cases h

theorem BesideEffect.of_cutShort {marker : Marker} {symbols : List LaneSymbol}
    (h : execFeedFrameCutShort marker symbols s = .next t) : BesideEffect (.feedFrameCutShort marker symbols) s.found t := by
  refine BesideEffect.of_feedInput rfl h fun _ he => ?_
  revert he
  generalize s.found = f
  intro he
  dsimp only at he
  split at he
  case h_1 hrx => exact .of_cutHeader (damaged := undecodedIn symbols != 0) (by simp only [State.sinceStart, hrx]) he
  case h_2 damaged hrx =>
    exact .of_cutHeader (damaged := damaged || undecodedIn symbols != 0) (by simp only [State.sinceStart, hrx]) he
  case h_3 hrx => cases he; exact .cutStoring hrx
  case h_4 hrx => cases he; exact .cutStaging hrx
  case h_5 hrx => cases he; exact .cutSkipping hrx
  all_goals cases he

theorem BesideEffect.of_ignored {symbols : List LaneSymbol} (h : execFeedFrameIgnored symbols s = .next t) :
    BesideEffect (.feedFrameIgnored symbols) s.found t := by
  refine BesideEffect.of_feedInput rfl h fun _ he => ?_
  split at he
  case h_1 hrx => cases he; exact .ignored hrx
  all_goals cases he

theorem BesideEffect.of_skippingFrameEnd {symbols : List LaneSymbol} (h : execSkippingFrameEnd symbols s = .next t) :
    BesideEffect (.skippingFrameEnd symbols) s.found t := by
  refine BesideEffect.of_feedInput rfl h fun _ he => ?_
  split at he
  case h_1 hrx => cases he; exact .skipped hrx
  all_goals cases he

/-- R50: the payload of a frame whose byte count is right has the declared length. -/
theorem framePayload_length_of_good {running : CheckWord} {damaged : Bool} {length : Nat} {values : List Byte}
    (h : frameVerdict running damaged length values = .good) : (framePayload length values).length = length := by
  unfold frameVerdict at h
  split at h
  · cases h
  · next hcount => simp only [framePayload, List.length_take]; omega

theorem BesideEffect.of_endStaged {kind : Byte} {mnemonic : String} {symbols : List LaneSymbol}
    {handOn : List Byte → State → State} (horigin : c.origin = .feedLink) (hc : stagedHandOn c = some (kind, handOn))
    (h : s.endStaged kind mnemonic symbols handOn = .next t) : BesideEffect c s.found t := by
  refine BesideEffect.of_feedInput horigin h fun _ he => ?_
  revert he
  generalize s.found = f
  intro he
  split at he
  case h_1 hrx =>
    split at he
    · next hkind =>
      subst hkind
      dsimp only at he
      split at he
      · cases he; exact .stagedMalformed hrx (by simp [hc]) _
      · cases he; exact .stagedCheckError hrx (by simp [hc]) _
      · next hgood => cases he; exact .stagedGood hrx hc (framePayload_length_of_good hgood) _
    · cases he
  all_goals cases he

/-- R121, R122: what a row of the consumer's good frames does. -/
theorem BesideEffect.of_onReturn {mnemonic : String} {part : FramePart} {frame : List Byte} {effect : State → State}
    (horigin : c.origin = .drainLink) (hc : routedFrame c = some (frame, effect))
    (h : s.onReturn mnemonic part frame effect = .next t) : BesideEffect c s.found t := by
  refine BesideEffect.of_drainInput horigin h fun he => ?_
  revert he
  generalize s.found = f
  intro he
  dsimp only at he
  generalize dataSymbols (partBytes part frame f.drainRx.held.length) = symbols at he
  generalize opensFrame part = opens at he
  have hend : ((f.receive opens symbols).endReturn fun bytes ended =>
      if bytes = frame then .next (effect ended) else .refused (.notPossible mnemonic)) = .next t → ReturnEffect c f t := by
    intro hends
    unfold State.endReturn at hends
    dsimp only at hends
    split at hends
    case h_1 received damaged hrx =>
      split at hends
      · cases hends; exact .malformed horigin _ _
      · cases hends; exact .checkError horigin _ _
      · next hgood =>
        split at hends
        · next hbytes =>
          rw [hbytes] at hrx hgood
          cases hends; exact .routed hc _ _ hrx hgood
        · cases hends
    all_goals cases hends; exact .ended horigin _ _
  split at he
  · cases he; exact .held horigin _ _
  · exact hend he
  · exact hend he

theorem BesideEffect.of_dropped {extent : Extent} {symbols : List LaneSymbol}
    (h : execDrainFrameDropped extent symbols s = .next t) : BesideEffect (.drainFrameDropped extent symbols) s.found t := by
  refine BesideEffect.of_drainInput rfl h fun he => ?_
  revert he
  generalize s.found = f
  intro he
  dsimp only at he
  split at he
  · cases he; exact .held rfl _ _
  · cases he; exact .restarted rfl _ _
  · unfold State.endReturn at he
    dsimp only at he
    split at he
    · split at he
      · cases he; exact .malformed rfl _ _
      · cases he; exact .checkError rfl _ _
      · cases he
    all_goals cases he; exact .ended rfl _ _

theorem BesideEffect.of_discarded {portion : Portion} (h : execReturnFrameDiscarded portion s = .next t) :
    BesideEffect (.returnFrameDiscarded portion) s.found t := by
  refine BesideEffect.of_drainInput rfl h fun he => ?_
  revert he
  generalize s.found = f
  intro he
  dsimp only at he
  split at he
  · cases he; exact .held rfl _ _
  · cases he
  · cases he
  · cases he; exact .restarted rfl _ _
  · cases he; exact .ended rfl _ _

theorem BesideEffect.of_onTransmission {mnemonic : String} {effect : State → Result}
    (h : s.onTransmission mnemonic effect = .next t) (he : effect s.found = .next t → CompletionEffect c s.found t) :
    BesideEffect c s.found t := by
  unfold State.onTransmission State.besideOwed at h
  dsimp only at h
  split at h
  · next ha => exact .complete ha (he h)
  · cases h

theorem BesideEffect.of_data (h : execDataTransmissionComplete s = .next t) :
    BesideEffect .dataTransmissionComplete s.found t := by
  refine BesideEffect.of_onTransmission h fun he => ?_
  split at he
  case h_1 htx => cases he; exact .data htx
  all_goals cases he

theorem BesideEffect.of_forwardNote (h : execForwardNoteComplete s = .next t) :
    BesideEffect .forwardNoteComplete s.found t := by
  refine BesideEffect.of_onTransmission h fun he => ?_
  split at he
  case h_1 htx => cases he; exact .forwardNote htx
  all_goals cases he

theorem BesideEffect.of_indication (h : execDrainIndicationComplete s = .next t) :
    BesideEffect .drainIndicationComplete s.found t := by
  refine BesideEffect.of_onTransmission h fun he => ?_
  split at he
  case h_1 htx => cases he; exact .noteDone htx
  case h_2 htx => cases he; exact .noteRefused htx
  all_goals cases he

theorem BesideEffect.of_response {straps : Straps} (h : execResponseComplete straps s = .next t) :
    BesideEffect (.responseComplete straps) s.found t := by
  refine BesideEffect.of_onTransmission h fun he => ?_
  split at he
  case h_1 htx =>
    split at he
    · next hends => cases he; exact .resetting straps htx hends
    · next hends => cases he; exact .response straps htx (Bool.eq_false_of_not_eq_true hends)
  all_goals cases he

theorem BesideEffect.of_backNote (h : execBackNoteComplete s = .next t) : BesideEffect .backNoteComplete s.found t := by
  refine BesideEffect.of_onTransmission h fun he => ?_
  split at he
  case h_1 htx => cases he; exact .backNote htx
  all_goals cases he

theorem BesideEffect.of_feedFrame (h : execFeedFrameComplete s = .next t) : BesideEffect .feedFrameComplete s.found t := by
  refine BesideEffect.of_onTransmission h fun he => ?_
  split at he
  case h_1 htx => cases he; exact .feedFrame htx nofun nofun
  case h_2 htx => cases he; exact .feedFrame htx nofun nofun
  case h_3 htx => cases he; exact .feedFrame htx nofun nofun
  case h_4 htx => cases he; exact .feedFrame htx nofun nofun
  all_goals cases he

theorem BesideEffect.of_effectStep {mnemonic : String} {takes : Request → Bool} {effect : Request → State → Answer}
    (hc : requestEffect c = some effect) (h : s.effectStep mnemonic takes effect = .next t) : BesideEffect c s.found t := by
  unfold State.effectStep State.besideOwed at h
  dsimp only at h
  split at h
  · next hr =>
    split at h
    · next hphase => cases h; exact .answer hc hphase.1 hr
    · cases h
  · cases h

/-! ### Own steps -/

theorem State.decideDrain_of_noteDone {i : Indication} (h : s.drainDecision = some (.noteDone i)) :
    s.decideDrain = s.startDoneToConsumer i := by unfold State.decideDrain; rw [h]
theorem State.decideDrain_of_noteRefused {i : Indication} (h : s.drainDecision = some (.noteRefused i)) :
    s.decideDrain = s.startRefusedToConsumer i := by unfold State.decideDrain; rw [h]
theorem State.decideDrain_of_forwardNote {n : Note} (h : s.drainDecision = some (.forwardNote n)) :
    s.decideDrain = s.startForwardNote n := by unfold State.decideDrain; rw [h]
theorem State.decideDrain_of_data {k : DataChoice} {record : FrameRecord} (h : s.drainDecision = some (.data k))
    (hf : (s.stream k.stream).frameAtCursor = some record) : s.decideDrain = s.startData k record := by
  unfold State.decideDrain; simp only [h, hf]
theorem State.decideFeed_of_some {k : FeedChoice} (h : s.feedDecision = some k) : s.decideFeed = s.startFeed k := by
  unfold State.decideFeed; rw [h]

theorem OwnEffect.of_drainChoice {k : DrainChoice} (h : s.drainDecision = some k) (hk : ∀ choice, k ≠ .data choice) :
    OwnEffect k.starter s s.decideDrain := .drain k h fun choice e => absurd e (hk choice)

theorem OwnEffect.of_dataTransmissionStart (h : execDataTransmissionStart s = .next t) :
    OwnEffect .dataTransmissionStart s t := by
  unfold execDataTransmissionStart at h
  split at h
  case h_1 choice hd =>
    split at h
    · next hf =>
      cases h
      rw [← State.decideDrain_of_data hd hf]
      exact .drain (.data choice) hd fun _ e => by cases e; rw [hf]; exact Option.some_ne_none _
    · cases h
  all_goals cases h

theorem OwnEffect.of_forwardNoteStart (h : execForwardNoteStart s = .next t) : OwnEffect .forwardNoteStart s t := by
  unfold execForwardNoteStart at h
  split at h
  case h_1 hd => cases h; rw [← State.decideDrain_of_forwardNote hd]; exact .of_drainChoice hd nofun
  all_goals cases h

theorem OwnEffect.of_drainIndicationStart (h : execDrainIndicationStart s = .next t) : OwnEffect .drainIndicationStart s t := by
  unfold execDrainIndicationStart at h
  split at h
  case h_1 hd => cases h; rw [← State.decideDrain_of_noteDone hd]; exact .of_drainChoice hd nofun
  case h_2 hd => cases h; rw [← State.decideDrain_of_noteRefused hd]; exact .of_drainChoice hd nofun
  all_goals cases h

theorem OwnEffect.of_feedChoice {k : FeedChoice} (h : s.feedDecision = some k) : OwnEffect k.starter s (s.startFeed k) := by
  rw [← State.decideFeed_of_some h]; exact .feed k h

theorem OwnEffect.of_flowFrameStart (h : execFlowFrameStart s = .next t) : OwnEffect .flowFrameStart s t := by
  unfold execFlowFrameStart at h
  split at h
  case h_1 hd => cases h; exact .of_feedChoice hd
  all_goals cases h

theorem OwnEffect.of_feedIndicationStart (h : execFeedIndicationStart s = .next t) : OwnEffect .feedIndicationStart s t := by
  unfold execFeedIndicationStart at h
  split at h
  case h_1 hd => cases h; exact .of_feedChoice hd
  case h_2 hd => cases h; exact .of_feedChoice hd
  all_goals cases h

theorem OwnEffect.of_responseStart (h : execResponseStart s = .next t) : OwnEffect .responseStart s t := by
  unfold execResponseStart at h
  split at h
  case h_1 hd => cases h; exact .of_feedChoice hd
  all_goals cases h

theorem OwnEffect.of_backNoteStart (h : execBackNoteStart s = .next t) : OwnEffect .backNoteStart s t := by
  unfold execBackNoteStart at h
  split at h
  case h_1 hd => cases h; exact .of_feedChoice hd
  all_goals cases h

theorem OwnEffect.of_eventFrameStart (h : execEventFrameStart s = .next t) : OwnEffect .eventFrameStart s t := by
  unfold execEventFrameStart at h
  split at h
  case h_1 hd => cases h; exact .of_feedChoice hd
  all_goals cases h

theorem OwnEffect.of_timerExpiry {v : Tag} (h : execTimerExpiry v s = .next t) : OwnEffect (.timerExpiry v) s t := by
  unfold execTimerExpiry at h
  split at h
  · next hdue => cases h; exact .expiry v hdue.1 hdue.2
  · cases h

theorem OwnEffect.of_carrierSettled (h : execCarrierSettled s = .next t) : OwnEffect .carrierSettled s t := by
  unfold execCarrierSettled at h
  split at h
  · next hs => cases h; exact .settled hs.1 hs.2
  · cases h

/-! ### Power, RESET_N and the tick -/

theorem AloneEffect.of_resetNLow {pulse : PulseLength} (h : execResetNLow pulse s = .next t) :
    AloneEffect (.resetNLow pulse) s.settle t := by
  unfold execResetNLow State.afterOwed at h
  cases pulse with
  | atLeast1us => cases h; exact .longPulse
  | under1us => cases h; exact .shortPulse

theorem AloneEffect.of_deviceReset {straps : Straps} (h : execDeviceReset straps s = .next t) :
    AloneEffect (.deviceReset straps) s.settle t := by
  unfold execDeviceReset State.afterOwed at h
  dsimp only at h
  split at h
  · next hpin => cases h; exact .shortPulseEnd straps hpin
  · next hpin => cases h; exact .risen straps hpin
  · next hpin => cases h; exact .reset straps hpin

theorem AloneEffect.of_tick (h : execTick s = .next t) : AloneEffect .tick s.settle t := by
  unfold execTick State.afterOwed at h
  dsimp only at h
  split at h
  · next hphase => cases h; exact .tickHeld hphase
  · next hphase => cases h; exact .tick hphase

/-! ### Every command -/

/-- What a command that answers a next state can have done. -/
inductive CommandEffect (c : Instr) (s t : State) : Prop where
  | own (h : OwnEffect c s t)
  | alone (h : AloneEffect c s.settle t)
  | beside (h : BesideEffect c s.found t)

theorem exec_next_cases (h : exec c s = .next t) : CommandEffect c s t := by
  cases c with
  | powerUp high => cases h; exact .alone (.powerUp high)
  | resetNLow pulse => exact .alone (.of_resetNLow h)
  | deviceReset straps => exact .alone (.of_deviceReset h)
  | tick => exact .alone (.of_tick h)
  | feedHeader symbols => exact .beside (.of_feedHeader h)
  | dataFrameEnd symbols => exact .beside (.of_dataFrameEnd h)
  | feedFrameCutShort marker symbols => exact .beside (.of_cutShort h)
  | feedFrameIgnored symbols => exact .beside (.of_ignored h)
  | skippingFrameEnd symbols => exact .beside (.of_skippingFrameEnd h)
  | requestArrival symbols => exact .beside (.of_endStaged rfl rfl h)
  | producerNote symbols => exact .beside (.of_endStaged rfl rfl h)
  | producerNoteTaken symbols => exact .beside (.of_endStaged rfl rfl h)
  | ack part fields => exact .beside (.of_onReturn rfl rfl h)
  | replay part fields => exact .beside (.of_onReturn rfl rfl h)
  | hold frame => exact .beside (.of_onReturn rfl rfl h)
  | resume frame => exact .beside (.of_onReturn rfl rfl h)
  | consumerNote part fields => exact .beside (.of_onReturn rfl rfl h)
  | consumerNoteTaken frame => exact .beside (.of_onReturn rfl rfl h)
  | drainFrameDropped extent symbols => exact .beside (.of_dropped h)
  | returnFrameDiscarded portion => exact .beside (.of_discarded h)
  | timerExpiry v => exact .own (.of_timerExpiry h)
  | carrierSettled => exact .own (.of_carrierSettled h)
  | dataTransmissionStart => exact .own (.of_dataTransmissionStart h)
  | forwardNoteStart => exact .own (.of_forwardNoteStart h)
  | drainIndicationStart => exact .own (.of_drainIndicationStart h)
  | flowFrameStart => exact .own (.of_flowFrameStart h)
  | feedIndicationStart => exact .own (.of_feedIndicationStart h)
  | responseStart => exact .own (.of_responseStart h)
  | backNoteStart => exact .own (.of_backNoteStart h)
  | eventFrameStart => exact .own (.of_eventFrameStart h)
  | carrierPresent => cases h; exact .beside (.carrier true)
  | carrierAbsent => cases h; exact .beside (.carrier false)
  | dataTransmissionComplete => exact .beside (.of_data h)
  | forwardNoteComplete => exact .beside (.of_forwardNote h)
  | drainIndicationComplete => exact .beside (.of_indication h)
  | responseComplete straps => exact .beside (.of_response h)
  | backNoteComplete => exact .beside (.of_backNote h)
  | feedFrameComplete => exact .beside (.of_feedFrame h)
  | identify => exact .beside (.of_effectStep rfl h)
  | readSettings => exact .beside (.of_effectStep rfl h)
  | writeSettings => exact .beside (.of_effectStep rfl h)
  | readStream => exact .beside (.of_effectStep rfl h)
  | writeStream => exact .beside (.of_effectStep rfl h)
  | openStream => exact .beside (.of_effectStep rfl h)
  | closeStreamDrain => exact .beside (.of_effectStep rfl h)
  | closeStreamDiscard => exact .beside (.of_effectStep rfl h)
  | flushStream => exact .beside (.of_effectStep rfl h)
  | restartStream => exact .beside (.of_effectStep rfl h)
  | readCounters => exact .beside (.of_effectStep rfl h)
  | clearNote => exact .beside (.of_effectStep rfl h)
  | discardAll => exact .beside (.of_effectStep rfl h)
  | resetDevice => exact .beside (.of_effectStep rfl h)
  | unknownCommand => exact .beside (.of_effectStep rfl h)

end

end Sys2Proof.Machine
end

section
/-!
Every step keeps the ranges (O59). One lemma for each operation, then one for each kind of effect.
-/

namespace Sys2Proof.Machine

/-! ### Streams (R2, R88, R96) -/

section
variable {x : Stream}

theorem Stream.InRange.load (h : x.InRange) (held : Bool) : (Timer.load x.config.ackTimeout held).InRange := by
  obtain ⟨-, -, hlow, hhigh, -⟩ := (StreamConfig.inRange_iff _).1 h.config
  unfold Timer.load
  split <;> exact ⟨hlow, hhigh⟩

theorem Timer.InRange.freeze {y : Timer} (h : y.InRange) : y.freeze.InRange := by cases y <;> exact h
theorem Timer.InRange.unfreeze {y : Timer} (h : y.InRange) : y.unfreeze.InRange := by cases y <;> exact h
theorem Timer.InRange.tick {y : Timer} (h : y.InRange) : y.tick.InRange := by
  cases y with
  | running n =>
    obtain ⟨hlow, hhigh⟩ := h
    show Timer.InRange (if n ≤ 1 then .due else .running (n - 1))
    split
    · trivial
    · exact ⟨by omega, by omega⟩
  | _ => exact h

theorem Stream.InRange.hold (h : x.InRange) : x.hold.InRange := by
  unfold Stream.hold
  split
  · exact h
  · exact { h with timer := h.timer.freeze }

theorem Stream.InRange.resume (h : x.InRange) : x.resume.InRange := by
  unfold Stream.resume
  split
  · exact { h with timer := h.timer.unfreeze }
  · exact h

theorem Stream.InRange.progress (h : x.InRange) : x.progress.InRange := by
  refine { config := h.config, budget := Nat.le_refl _, timer := ?_ }
  show Timer.InRange (if _ then _ else _)
  split
  · exact h.load _
  · trivial

theorem Stream.InRange.pullCursor (h : x.InRange) (oldHead : Serial) : (x.pullCursor oldHead).InRange := by
  unfold Stream.pullCursor
  split
  · exact { h with }
  · exact h

theorem Stream.InRange.completed (h : x.InRange) : x.completed.InRange := by
  unfold Stream.completed
  split
  · exact { h with timer := h.load _ }
  · exact h

theorem Stream.InRange.restore (h : x.InRange) : x.restore.InRange := by
  unfold Stream.restore
  split
  · exact { h with timer := trivial }
  · exact h

end

/-! ### Blocks of the state -/

theorem EventBlock.InRange.store {b : EventBlock} (h : b.InRange) (e : EventRecord) : (b.store e).InRange := by
  have hfull := h.lostOnlyWhenFull
  unfold EventBlock.store Config.eventQueueSize Config.lostMax
  split
  · next hspace =>
    refine { queue := by simp; omega, lost := h.lost, lostOnlyWhenFull := fun hlost => ?_ }
    have := hfull hlost
    omega
  · next hspace =>
    have hqueue := h.queue
    exact { queue := hqueue, lost := Nat.min_le_right _ _, lostOnlyWhenFull := fun _ => Nat.le_antisymm hqueue (Nat.le_of_not_lt hspace) }

theorem indicationInRange_bump {r : Option Indication} (h : IndicationInRange r) (number : Byte) :
    IndicationInRange (some (bumpIndication r number)) := by
  rintro i ⟨⟩
  cases r with
  | none => exact ⟨Nat.le_refl 1, Nat.le_of_ble_eq_true rfl⟩
  | some i =>
    have hi := h i rfl
    show 1 ≤ min (i.count + 1) Config.indicationMax ∧ min (i.count + 1) Config.indicationMax ≤ 255
    unfold Config.indicationMax
    omega

theorem indicationInRange_none : IndicationInRange none := nofun

theorem NoteSlot.InRange.complete {x : NoteSlot} (h : x.InRange) : x.complete.InRange := by
  cases x with
  | sending n clear => cases clear <;> [exact h; trivial]
  | _ => exact h
theorem NoteSlot.InRange.carrierLost {x : NoteSlot} (h : x.InRange) : x.carrierLost.InRange := by
  cases x with
  | sending n clear => cases clear <;> [exact h; trivial]
  | _ => exact h
theorem NoteSlot.InRange.clear {x : NoteSlot} (h : x.InRange) : x.clear.InRange := by
  cases x with
  | sending n clear => exact h
  | _ => trivial

theorem DrainTransmission.inRange_unmark {tx : Option DrainTransmission} (h : DrainTransmission.InRange tx) :
    DrainTransmission.InRange (tx.map DrainTransmission.unmark) := by
  match tx with
  | none => trivial
  | some (.data ..) => trivial
  | some (.note _) => trivial
  | some (.noteDone ..) => exact h
  | some (.noteRefused ..) => exact h

theorem DrainTransmission.inRange_tallyDone {tx : Option DrainTransmission} (h : DrainTransmission.InRange tx) (number : Byte) :
    DrainTransmission.InRange (tx.map fun tx => tx.tallyDone number) := by
  match tx with
  | none => trivial
  | some (.data ..) => trivial
  | some (.note _) => trivial
  | some (.noteDone ..) => exact indicationInRange_bump h number
  | some (.noteRefused ..) => exact h

theorem DrainTransmission.inRange_tallyRefused {tx : Option DrainTransmission} (h : DrainTransmission.InRange tx)
    (number : Byte) : DrainTransmission.InRange (tx.map fun tx => tx.tallyRefused number) := by
  match tx with
  | none => trivial
  | some (.data ..) => trivial
  | some (.note _) => trivial
  | some (.noteDone ..) => exact h
  | some (.noteRefused ..) => exact indicationInRange_bump h number

theorem takeOldestQueued_length (l : List Slot) : (takeOldestQueued l).length = l.length := by
  induction l with
  | nil => rfl
  | cons x rest ih => cases x <;> simp [takeOldestQueued, ih]
theorem answerExecuting_length (a : Response) (l : List Slot) : (answerExecuting a l).length = l.length := by
  induction l with
  | nil => rfl
  | cons x rest ih => cases x <;> simp [answerExecuting, ih]
theorem freeOldestAnswer_length (l : List Slot) : (freeOldestAnswer l).length ≤ l.length := by
  induction l with
  | nil => exact Nat.le_refl _
  | cons x rest ih => cases x <;> simp [freeOldestAnswer, ih]

/-! ### Shared operations -/

namespace State.InRange

variable {s : State}

theorem raise (h : s.InRange) (e : EventRecord) : (s.raise e).InRange := by
  unfold State.raise
  split
  · exact { h with events := h.events.store e }
  · exact h

theorem evaluatePool (h : s.InRange) : s.evaluatePool.InRange := by
  unfold State.evaluatePool
  dsimp only
  split
  · exact h
  · refine raise ?_ _
    exact { h with }

theorem evaluatePoolFrom (h : s.InRange) (n : Nat) : (s.evaluatePoolFrom n).InRange := by
  unfold State.evaluatePoolFrom
  split
  · exact h
  · exact h.evaluatePool

theorem setStream (h : s.InRange) (t : Tag) {x : Stream} (hx : x.InRange) : (s.setStream t x).InRange :=
  { h with
    streams := fun v => by
      rw [State.stream_setStream]
      split
      · exact hx
      · exact h.streams v }

theorem updateStream (h : s.InRange) (t : Tag) {f : Stream → Stream} (hf : ∀ x : Stream, x.InRange → (f x).InRange) :
    (s.updateStream t f).InRange := h.setStream t (hf _ (h.streams t))

theorem withStreams (h : s.InRange) (v : Vector Stream 63) (hv : ∀ t : Tag, (v[t.val]'t.isLt).InRange) :
    ({ s with streams := v } : State).InRange := { h with streams := hv }

theorem stream_mapStreams (h : s.InRange) {f : Stream → Stream} (hf : ∀ x : Stream, x.InRange → (f x).InRange) (t : Tag) :
    ((s.mapStreams f).stream t).InRange := by
  rw [State.stream_mapStreams]; exact hf _ (h.streams t)

theorem mapStreams (h : s.InRange) {f : Stream → Stream} (hf : ∀ x : Stream, x.InRange → (f x).InRange) :
    (s.mapStreams f).InRange := h.withStreams _ (h.stream_mapStreams hf)

theorem countStream (h : s.InRange) (t : Tag) (f : StreamCounters → StreamCounters) : (s.countStream t f).InRange :=
  h.updateStream t fun _ hx => { hx with }

theorem evaluateFlow (h : s.InRange) (t : Tag) : (s.evaluateFlow t).InRange := h.updateStream t fun _ hx => { hx with }

theorem evaluateFlowFrom (h : s.InRange) (t : Tag) (n : Nat) : (s.evaluateFlowFrom t n).InRange := by
  unfold State.evaluateFlowFrom
  split
  · exact h
  · exact h.evaluateFlow t

theorem handBack (h : s.InRange) (gone : List FrameRecord) : (s.handBack gone).InRange :=
  { h with
    drainTx := by
      show DrainTransmission.InRange (if _ then _ else _)
      split
      · exact DrainTransmission.inRange_unmark h.drainTx
      · exact h.drainTx }

theorem release (h : s.InRange) (t : Tag) (k : Nat) : (s.release t k).InRange := by
  refine handBack ?_ _
  exact h.updateStream t fun _ hx => { hx with }

theorem collapse {x : Stream} (hx : x.InRange) (serial : Serial) : (x.collapse serial).InRange := { hx with timer := trivial }

theorem openAt (h : s.InRange) (t : Tag) (serial : Serial) : (s.openAt t serial).InRange := by
  refine evaluateFlow ?_ t
  have hopened : (s.updateStream t fun x => x.opening serial).InRange :=
    h.updateStream t fun _ hx => { config := hx.config, budget := Nat.le_refl _, timer := trivial }
  exact { hopened with }

theorem enterClosed (h : s.InRange) (t : Tag) : (s.enterClosed t).InRange := by
  have hclosed : (s.updateStream t Stream.closing).InRange := h.updateStream t fun _ hx => { hx with timer := trivial }
  exact { hclosed with }

theorem closeDrained (h : s.InRange) (t : Tag) (outcome : CloseOutcome) : (s.closeDrained t outcome).InRange :=
  (h.enterClosed t).raise _

theorem closeIfDrained (h : s.InRange) (t : Tag) (outcome : CloseOutcome) : (s.closeIfDrained t outcome).InRange := by
  unfold State.closeIfDrained
  split
  · exact h.closeDrained t outcome
  · exact h

theorem finishRelease (h : s.InRange) (t : Tag) (outcome : CloseOutcome) (occupancy free : Nat) :
    (s.finishRelease t outcome occupancy free).InRange :=
  ((h.closeIfDrained t outcome).evaluateFlowFrom t occupancy).evaluatePoolFrom free

theorem halt (h : s.InRange) (t : Tag) (cause : HaltCause) : (s.halt t cause).InRange := by
  refine raise ?_ _
  exact h.updateStream t fun _ hx => { hx with timer := trivial }

theorem expire (h : s.InRange) (t : Tag) : (s.expire t).InRange := by
  have hcounted : (s.countStream t fun c => { c with timeouts := c.timeouts + 1#32 }).InRange := h.countStream t _
  have hx := hcounted.streams t
  unfold State.expire
  dsimp only
  split
  · refine raise (setStream hcounted t ?_) _
    exact { hx with budget := Nat.le_trans (Nat.sub_le _ _) hx.budget, timer := trivial }
  · exact hcounted.halt t .timer

theorem deferredReturn (h : s.InRange) (record : FrameRecord) : (s.deferredReturn record).InRange := by
  refine evaluatePoolFrom ?_ _
  exact { h with }

theorem returnReservation (h : s.InRange) (record : FrameRecord) : (s.returnReservation record).InRange := by
  refine evaluatePoolFrom (evaluateFlowFrom ?_ _ _) _
  refine updateStream ?_ _ fun _ hx => { hx with }
  exact { h with }

/-! ### Carrier (R102 to R106) -/

theorem carrierUp (h : s.InRange) : s.carrierUp.InRange := by
  refine raise ?_ _
  have hup : ({ s with carrier := .up } : State).InRange := { h with carrier := trivial }
  exact hup.withStreams _ (h.stream_mapStreams fun _ hx => hx.restore)

theorem carrierLoss (h : s.InRange) : s.carrierLoss.InRange := by
  refine evaluatePoolFrom (raise ?_ _) _
  have hreceiver : DrainReceiver.InRange s.drainRx.carrierLost := by cases s.drainRx <;> trivial
  have hdown : ({ s with
      carrier := .down, drainRx := s.drainRx.carrierLost, drainTx := none
      pool := s.pool.giveBack (abandonedRecords s.drainTx)
      notes := { s.notes with forward := s.notes.forward.carrierLost } } : State).InRange :=
    { h with
      carrier := trivial, drainTx := trivial, drainRx := hreceiver
      notes := { h.notes with forward := h.notes.forward.carrierLost } }
  exact hdown.withStreams _ (h.stream_mapStreams fun _ hx => { hx with timer := hx.timer.freeze })

theorem settling (h : s.InRange) : Carrier.InRange (.settling s.settings.settleTime) := by
  obtain ⟨-, -, -, -, -, -, -, hlow, hhigh⟩ := (settingsInRange_iff _).1 h.settings
  exact ⟨hlow, hhigh⟩

theorem followCarrier (h : s.InRange) : s.followCarrier.InRange := by
  unfold State.followCarrier
  split
  · exact { h with carrier := h.settling }
  · exact h
  · exact h
  · exact h
  · exact h
  · exact { h with carrier := trivial }
  · exact { h with carrier := trivial }
  · exact h.carrierLoss

theorem setCarrierPin (h : s.InRange) (present : Bool) : (s.setCarrierPin present).InRange := by
  have hmoved : ({ s with carrierPin := present } : State).InRange := { h with }
  unfold State.setCarrierPin
  dsimp only
  split
  · exact hmoved.followCarrier
  · exact hmoved

/-! ### The part's own steps -/

theorem expireDue (h : s.InRange) : s.expireDue.InRange := by
  unfold State.expireDue
  generalize allTags.filter (fun t => (s.stream t).timer == .due) = due
  induction due generalizing s with
  | nil => exact h
  | cons t rest ih => exact ih (h.expire t)

theorem takeTick (h : s.InRange) : s.takeTick.InRange := by
  unfold State.takeTick State.finishSettling
  split
  · exact h.expireDue.carrierUp
  · exact h.expireDue

theorem creditsOfChoice (h : s.InRange) {k : DataChoice} (hk : s.chooseData = some k) : k.credits.InRange := by
  obtain ⟨-, hserves, -⟩ := State.chooseData_eq_some.1 hk
  rcases hserves with ⟨-, e⟩ | ⟨-, -, -, -, e⟩ | ⟨-, -, -, -, e⟩
  · rw [e]; exact h.credits
  · rw [e]; exact h.credits
  · obtain ⟨-, -, ⟨-, h1⟩, ⟨-, h2⟩, ⟨-, h3⟩, -⟩ := (settingsInRange_iff _).1 h.settings
    rw [e]; exact ⟨h1, h2, h3⟩

theorem spend {w : ClassWeights} (h : w.InRange) (c : StreamClass) : (w.spend c).InRange := by
  have h1 := h.class1
  have h2 := h.class2
  have h3 := h.class3
  match c with
  | 0 => exact h
  | 1 => exact { h with class1 := Nat.le_trans (Nat.sub_le _ _) h1 }
  | 2 => exact { h with class2 := Nat.le_trans (Nat.sub_le _ _) h2 }
  | 3 => exact { h with class3 := Nat.le_trans (Nat.sub_le _ _) h3 }

theorem startData (h : s.InRange) {k : DataChoice} (hk : k.credits.InRange) (record : FrameRecord) :
    (s.startData k record).InRange := by
  have hx := h.streams k.stream
  refine setStream ?_ _ { hx with }
  exact { h with drainTx := trivial, credits := spend hk _ }

theorem decideDrain (h : s.InRange) : s.decideDrain.InRange := by
  unfold State.decideDrain
  split
  case h_1 => exact { h with drainTx := indicationInRange_none }
  case h_2 => exact { h with drainTx := indicationInRange_none }
  case h_3 n hd =>
    obtain ⟨-, hwaiting, -⟩ := State.drainDecision_forwardNote.1 hd
    have hslot := h.notes.forward
    rw [hwaiting] at hslot
    exact { h with drainTx := trivial, notes := { h.notes with forward := hslot } }
  case h_4 k hd =>
    obtain ⟨-, -, hserves⟩ := State.drainDecision_data.1 hd
    split
    · exact h.startData (h.creditsOfChoice (State.chooseData_eq_some.2 hserves)) _
    · exact h
  case h_5 => exact h

theorem takeFlow (h : s.InRange) (i : FlowIndication) : (s.takeFlow i).InRange := by
  have hflow (t : Tag) : ({ s with flowPosition := t } : State).InRange := { h with }
  cases i with
  | pause t => exact updateStream (f := fun x => { x with sentFlow := .paused }) (hflow t) t fun _ hx => { hx with }
  | go t => exact updateStream (f := fun x => { x with sentFlow := .go }) (hflow t) t fun _ hx => { hx with }
  | poolPause => exact { h with }
  | poolGo => exact { h with }

theorem startFeed (h : s.InRange) {k : FeedChoice} (hk : ∀ n, k = .backNote n → s.notes.back = .waiting n) :
    (s.startFeed k).InRange := by
  cases k with
  | flow i =>
    have hflow := h.takeFlow i
    exact { hflow with }
  | noteDone i => exact { h with notes := { h.notes with doneToProducer := indicationInRange_none } }
  | noteRefused i => exact { h with notes := { h.notes with refusedToProducer := indicationInRange_none } }
  | response r => exact { h with }
  | backNote n =>
    have hslot := h.notes.back
    rw [hk n rfl] at hslot
    exact { h with notes := { h.notes with back := hslot } }
  | event e =>
    refine { h with events := { queue := ?_, lost := Nat.zero_le _, lostOnlyWhenFull := nofun } }
    have hqueue := h.events.queue
    show s.events.queue.tail.length ≤ 16
    rw [List.length_tail]
    omega

theorem decideFeed (h : s.InRange) : s.decideFeed.InRange := by
  unfold State.decideFeed
  split
  · next k hd =>
    refine h.startFeed fun n e => ?_
    subst e
    obtain ⟨-, -, -, -, -, hwaiting⟩ := State.feedDecision_eq_some.1 hd
    exact hwaiting
  · exact h

theorem setAtTick (h : s.InRange) (b : Bool) : (s.setAtTick b).InRange := { h with }

theorem settle (h : s.InRange) : s.settle.InRange := by
  unfold State.settle
  split
  · exact h
  · exact h.takeTick.decideDrain.decideFeed.setAtTick false

theorem found (h : s.InRange) : s.found.InRange := by
  rcases s.found_cases with ⟨-, e⟩ | ⟨-, -, e⟩ | ⟨-, -, e⟩
  · rw [e]; exact h
  · rw [e]; exact h.takeTick.setAtTick false
  · rw [e]; exact h.settle

end State.InRange

end Sys2Proof.Machine
end

section
/-!
Every step keeps the ranges (O59): the effects of the commands.
-/

namespace Sys2Proof.Machine

namespace State.InRange

variable {s t : State}

/-! ### Device reset (R4 to R6, R162) -/

theorem profileConfig_inRange (p : Fin 4) (v : Tag) : (profileConfig p v).inRange = true := by
  rw [StreamConfig.inRange_iff]
  match p with
  | 0 => simp [profileConfig, StreamConfig.Valid]
  | 1 => simp [profileConfig, StreamConfig.Valid]
  | 2 => simp [profileConfig, StreamConfig.Valid]
  | 3 => simp [profileConfig, StreamConfig.Valid]

theorem resetBlocks (h : s.cells.wf = true) (straps : Straps) : (s.resetBlocks straps).InRange where
  streams v := by
    rw [State.stream_resetBlocks]
    exact { config := profileConfig_inRange _ v, budget := Nat.le_refl _, timer := trivial }
  cells := h
  carrier := by
    show (carrierFrom s.carrierPin 50).InRange
    unfold carrierFrom
    split
    · exact ⟨by omega, by omega⟩
    · trivial
  credits := { class1 := (by decide : 8 ≤ 16), class2 := (by decide : 4 ≤ 16), class3 := (by decide : 1 ≤ 16) }
  notes :=
    { forward := trivial, back := trivial, doneToProducer := nofun, refusedToProducer := nofun, doneToConsumer := nofun
      refusedToConsumer := nofun }
  drainTx := trivial
  feedRx := trivial
  drainRx := trivial
  slots := Nat.zero_le _
  settings := (by decide : settingsInRange {} = true)
  events := { queue := by show 1 ≤ 16; omega, lost := Nat.zero_le _, lostOnlyWhenFull := nofun }

theorem foldl_openAt (h : s.InRange) (l : List Tag) (serial : Serial) :
    (l.foldl (fun s t => s.openAt t serial) s).InRange := by
  induction l generalizing s with
  | nil => exact h
  | cons v rest ih => exact ih (h.openAt v serial)

theorem deviceReset (h : s.cells.wf = true) (straps : Straps) : (s.deviceReset straps).InRange := by
  unfold State.deviceReset State.openAllStreams
  split
  · exact (resetBlocks h straps).foldl_openAt _ _
  · exact resetBlocks h straps

/-! ### Power, RESET_N and the tick -/

theorem tick (h : s.InRange) : s.tick.InRange := by
  have hcarrier : s.carrier.tick.InRange := by
    have hc := h.carrier
    cases he : s.carrier with
    | settling n =>
      rw [he] at hc
      obtain ⟨hlow, hhigh⟩ := hc
      show Carrier.InRange (if n ≤ 1 then .settled else .settling (n - 1))
      split
      · trivial
      · exact ⟨by omega, by omega⟩
    | _ => trivial
  have hlowered : ({ s with carrier := s.carrier.tick } : State).InRange := { h with carrier := hcarrier }
  refine setAtTick ?_ _
  exact hlowered.mapStreams fun _ hx => { hx with timer := hx.timer.tick }

theorem holdInReset (h : s.InRange) (pin : ResetPin) : (s.holdInReset pin).InRange :=
  { h with drainTx := trivial, feedRx := trivial, drainRx := trivial }

theorem alone {c : Instr} (h : s.InRange) (he : AloneEffect c s t) : t.InRange := by
  cases he with
  | powerUp high => exact h.holdInReset _
  | longPulse => exact h.holdInReset _
  | shortPulse =>
    unfold State.shortPulse
    split
    · exact { h with }
    · exact h
    · exact h
  | reset straps hpin => exact deviceReset h.cells straps
  | risen straps hpin => exact deviceReset (s := { s with resetPin := .high }) h.cells straps
  | shortPulseEnd straps hpin =>
    have hrisen : ({ s with resetPin := .high, freeCount := s.freeCount + 1 } : State).InRange := { h with }
    unfold State.endShortPulse
    dsimp only
    split
    · exact deviceReset hrisen.cells straps
    · unfold State.carryOn
      split
      · exact hrisen.followCarrier
      · exact hrisen
  | tick hphase => exact h.tick
  | tickHeld hphase => exact h

theorem own {c : Instr} (h : s.InRange) (he : OwnEffect c s t) : t.InRange := by
  cases he with
  | expiry v hphase hdue => exact h.expire v
  | settled hphase hsettled => exact h.carrierUp
  | drain k hdecision hframe => exact h.decideDrain
  | feed k hdecision => exact h.decideFeed

/-! ### The feed link (R40 to R57) -/

theorem drawFree (h : s.InRange) (n : Nat) : (s.drawFree n).InRange := { h with }
theorem setFeedRx (h : s.InRange) {r : FeedReceiver} (hr : r.InRange) : (s.setFeedRx r).InRange := { h with feedRx := hr }
theorem countFeedMalformed (h : s.InRange) : s.countFeedMalformed.InRange := { h with }
theorem countFeedCheckError (h : s.InRange) : s.countFeedCheckError.InRange := { h with }

theorem storeBytes (h : s.InRange) (record : FrameRecord) (payload : List Byte) : (s.storeBytes record payload).InRange :=
  { h with cells := Memory.writeChain_wf _ _ h.cells }

theorem reserve (h : s.InRange) {v : Tag} {length : Nat} {record : FrameRecord} (e : s.reserve v length = some (record, t)) :
    t.InRange := by
  unfold State.reserve at e
  split at e
  · cases e
  · cases e
    refine evaluatePoolFrom (evaluateFlowFrom (updateStream (f := fun x => { x with occupancy := x.occupancy + cellsFor length }) ?_ _
      fun _ hx => { hx with }) _ _) _
    exact { h with }

theorem refuseLimit (h : s.InRange) (v : Tag) : (s.refuseLimit v).InRange := by
  have hcounted := h.countStream v fun c => { c with refusedLimit := c.refusedLimit + 1#32 }
  unfold State.refuseLimit
  dsimp only
  split
  · exact hcounted
  · refine raise (updateStream hcounted v fun _ hx => ?_) _
    exact { hx with }

theorem takeData (h : s.InRange) (v : Tag) (length : Nat) (body : List Byte) (running : CheckWord) (damaged : Bool) :
    (s.takeData v length body running damaged).InRange := by
  unfold State.takeData
  split
  · exact (h.countStream v _).setFeedRx trivial
  · exact (h.refuseLimit v).setFeedRx trivial
  · exact (h.countStream v _).setFeedRx trivial
  · unfold State.beginStoring
    split
    · next record u hreserve => exact ((h.reserve hreserve).storeBytes _ _).setFeedRx trivial
    · exact h.setFeedRx trivial

theorem takeHeader (h : s.InRange) (received : List Byte) (damaged : Bool) : (s.takeHeader received damaged).InRange := by
  unfold State.takeHeader
  split
  · next hshort => exact h.setFeedRx hshort
  · dsimp only
    split
    · exact h.countFeedMalformed.setFeedRx trivial
    · exact h.takeData _ _ _ _ _
    · next hkind => exact h.setFeedRx hkind

theorem endData (h : s.InRange) (record : FrameRecord) (verdict : FrameVerdict) : (s.endData record verdict).InRange := by
  cases verdict with
  | countMismatch => exact (h.returnReservation record).countFeedMalformed
  | checkMismatch => exact (h.returnReservation record).countFeedCheckError
  | good =>
    show State.InRange (if _ then _ else _)
    split
    · exact h.updateStream _ fun _ hx => { hx with }
    · exact (h.returnReservation record).countStream _ _

theorem engineTake (h : s.InRange) : s.engineTake.InRange := by
  unfold State.engineTake
  split
  · exact h
  · exact { h with slots := (takeOldestQueued_length s.slots).le.trans h.slots }

theorem requestArrives (h : s.InRange) (r : Request) : (s.requestArrives r).InRange := by
  unfold State.requestArrives
  split
  · next hfree =>
    refine engineTake { h with slots := ?_ }
    show (s.slots ++ [Slot.queued r]).length ≤ 4
    rw [List.length_append]
    exact hfree
  · refine raise ?_ _
    exact { h with }

theorem forwardNoteArrives (h : s.InRange) {n : Note} (hn : n.payload.length ≤ 64) : (s.forwardNoteArrives n).InRange := by
  unfold State.forwardNoteArrives
  split
  · exact { h with notes := { h.notes with forward := hn } }
  · exact { h with notes := { h.notes with refusedToProducer := indicationInRange_bump h.notes.refusedToProducer _ } }

theorem backNoteArrives (h : s.InRange) {n : Note} (hn : n.payload.length ≤ 64) : (s.backNoteArrives n).InRange := by
  unfold State.backNoteArrives
  split
  · exact { h with notes := { h.notes with back := hn } }
  · exact { h with
      notes := { h.notes with refusedToConsumer := indicationInRange_bump h.notes.refusedToConsumer _ }
      drainTx := DrainTransmission.inRange_tallyRefused h.drainTx _ }

theorem countNoteStray (h : s.InRange) : s.countNoteStray.InRange := { h with }

theorem forwardNoteTaken (h : s.InRange) (number : Byte) : (s.forwardNoteTaken number).InRange := by
  unfold State.forwardNoteTaken
  split
  · exact { h with
      notes := { h.notes with
        forward := trivial, doneToProducer := indicationInRange_bump h.notes.doneToProducer _ } }
  · exact h.countNoteStray

theorem backNoteTaken (h : s.InRange) (number : Byte) : (s.backNoteTaken number).InRange := by
  unfold State.backNoteTaken
  split
  · exact { h with
      notes := { h.notes with back := trivial, doneToConsumer := indicationInRange_bump h.notes.doneToConsumer _ }
      drainTx := DrainTransmission.inRange_tallyDone h.drainTx _ }
  · exact h.countNoteStray

theorem noteOf_payload_length (payload : List Byte) : (noteOf payload).payload.length = payload.length - 1 := by
  cases payload <;> rfl

/-- R42, R57: what a staged frame hands on. -/
theorem handOn {c : Instr} {header : Header} {handOn : List Byte → State → State} {payload : List Byte} (h : s.InRange)
    (hstaged : feedKind? header = some .staged) (hc : stagedHandOn c = some (header.kind, handOn))
    (hlength : payload.length = header.length.toNat) : (handOn payload s).InRange := by
  cases c with
  | requestArrival symbols =>
    simp only [stagedHandOn, Option.some.injEq, Prod.mk.injEq] at hc
    obtain ⟨-, rfl⟩ := hc
    exact h.requestArrives _
  | producerNote symbols =>
    simp only [stagedHandOn, Option.some.injEq, Prod.mk.injEq] at hc
    obtain ⟨hkind, rfl⟩ := hc
    refine h.forwardNoteArrives ?_
    rw [noteOf_payload_length, hlength]
    rcases feedKind_staged_inv hstaged with ⟨hk, -⟩ | ⟨-, -, hmax⟩ | ⟨hk, -⟩
    · exact absurd (hkind.trans hk) (by decide)
    · omega
    · exact absurd (hkind.trans hk) (by decide)
  | producerNoteTaken symbols =>
    simp only [stagedHandOn, Option.some.injEq, Prod.mk.injEq] at hc
    obtain ⟨-, rfl⟩ := hc
    exact h.backNoteTaken _
  | _ => cases hc

theorem feed {c : Instr} (h : s.InRange) (he : FeedEffect c s t) : t.InRange := by
  cases he with
  | header hbytes => exact (h.drawFree _).takeHeader _ _
  | dataEnd hrx verdict => exact (((h.drawFree _).storeBytes _ _).endData _ _).setFeedRx trivial
  | cutHeader marker hbytes =>
    refine (h.drawFree _).countFeedMalformed.setFeedRx ?_
    cases marker <;> simp [FeedReceiver.afterCut, FeedReceiver.InRange]
  | cutStoring hrx =>
    exact (((h.drawFree _).storeBytes _ _).returnReservation _).countFeedMalformed.setFeedRx (by simp [FeedReceiver.InRange])
  | cutStaging hrx => exact (h.drawFree _).countFeedMalformed.setFeedRx (by simp [FeedReceiver.InRange])
  | cutSkipping hrx => exact (h.drawFree _).setFeedRx (by simp [FeedReceiver.InRange])
  | ignored hrx => exact h
  | skipped hrx => exact (h.drawFree _).setFeedRx trivial
  | stagedMalformed hrx hc drawn => exact ((h.drawFree drawn).setFeedRx (r := .awaitStart) trivial).countFeedMalformed
  | stagedCheckError hrx hc drawn => exact ((h.drawFree drawn).setFeedRx (r := .awaitStart) trivial).countFeedCheckError
  | stagedGood hrx hc hlength drawn =>
    have hstaged := h.feedRx
    rw [hrx] at hstaged
    exact ((h.drawFree drawn).setFeedRx (r := .awaitStart) trivial).handOn hstaged hc hlength

/-! ### The drain link (R106, R121, R122) -/

theorem setDrainRx (h : s.InRange) {r : DrainReceiver} (hr : r.InRange) : (s.setDrainRx r).InRange := { h with drainRx := hr }

theorem returnStarts (h : s.InRange) : s.returnStarts.InRange := by
  rw [State.returnStarts_eq]
  refine { h with drainRx := ?_ }
  show s.receiverAtStart.InRange
  unfold State.receiverAtStart
  split
  · exact fun hlong => absurd hlong (by simp)
  · trivial

theorem takeReturn (h : s.InRange) (symbols : List LaneSymbol) : (s.takeReturn symbols).InRange := by
  unfold State.takeReturn
  split
  case h_1 received damaged hrx =>
    dsimp only
    split
    · exact { h with drainRx := trivial }
    · next hvalid =>
      refine { h with drainRx := fun hlong => ?_ }
      exact Bool.eq_true_of_not_eq_false fun hbad => hvalid ⟨hlong, hbad⟩
  all_goals exact h

theorem receive (h : s.InRange) (opens : Bool) (symbols : List LaneSymbol) : (s.receive opens symbols).InRange := by
  unfold State.receive
  split
  · exact h.returnStarts.takeReturn symbols
  · exact h.takeReturn symbols

theorem staleReturn (h : s.InRange) (v : Tag) : (s.staleReturn v).InRange := h.countStream v _

theorem ackProgress (h : s.InRange) (v : Tag) (serial : Serial) : (s.ackProgress v serial).InRange := by
  refine finishRelease (updateStream (updateStream (h.release v _) v fun _ hx => ?_) v fun _ hx => ?_) _ _ _ _
  · refine Stream.InRange.pullCursor ?_ _
    exact { hx with }
  · split
    · exact hx.progress
    · exact hx

theorem replayRelease (h : s.InRange) (v : Tag) (serial : Serial) : (s.replayRelease v serial).InRange := by
  refine finishRelease (updateStream (updateStream (f := fun y => { y with head := serial, cursor := serial }) (h.release v _) v fun _ hx => { hx with }) v
    fun _ hx => ?_) _ _ _ _
  split
  · exact { config := hx.config, budget := Nat.le_refl _, timer := trivial }
  · exact hx

theorem replayAtHead (h : s.InRange) (v : Tag) (serial : Serial) : (s.replayAtHead v serial).InRange := by
  have hx := h.streams v
  unfold State.replayAtHead
  dsimp only
  split
  · split
    · exact h.setStream v { hx with timer := trivial }
    · exact h
  · split
    · split
      · exact h.setStream v { hx with budget := Nat.le_trans (Nat.sub_le _ _) hx.budget, timer := trivial }
      · exact h.halt v .peerReplay
    · exact h.setStream v { hx with }

theorem takeAck (h : s.InRange) (v : Tag) (d : Byte) (serial : Serial) : (s.takeAck v d serial).InRange := by
  unfold State.takeAck
  split
  · exact h.ackProgress v serial
  · exact h.staleReturn v
  · exact h.raise _

theorem takeReplay (h : s.InRange) (v : Tag) (d : Byte) (serial : Serial) : (s.takeReplay v d serial).InRange := by
  unfold State.takeReplay
  split
  · unfold State.replayAccepted
    dsimp only
    split
    · exact (h.countStream v _).replayAtHead v serial
    · exact (h.countStream v _).replayRelease v serial
  · exact h.staleReturn v
  · exact h.raise _

theorem strayReturn (h : s.InRange) (kind d : Byte) (serial : BitVec 16) : (s.strayReturn kind d serial).InRange := by
  refine raise ?_ _
  exact { h with }

/-- R121: the payload of a good frame whose header has passed its tests has the length that the header declares. -/
theorem note_payload_length {serial : Serial} {number : Byte} {payload : List Byte} {damaged : Bool}
    (hvalid : drainHeaderValid (headerOf (frameBytes kindNote 0#8 serial (number :: payload))) = true)
    (hgood : dropCause? (frameBytes kindNote 0#8 serial (number :: payload)) damaged = none) : payload.length ≤ 64 := by
  have hcount : (frameBytes kindNote 0#8 serial (number :: payload)).length =
      6 + (headerOf (frameBytes kindNote 0#8 serial (number :: payload))).length.toNat + 4 := by
    rw [dropCause_eq _ _ (by simp)] at hgood
    dsimp only at hgood
    split at hgood
    · cases hgood
    · next hne => exact not_not.1 hne
  rw [headerOf_frameBytes] at hvalid hcount
  simp [drainHeaderValid, lengthIn, kindAck, kindReplay, kindHold, kindResume, kindNote] at hvalid hcount
  omega

/-- R122: what a good frame does in its block. -/
theorem routed {c : Instr} {frame : List Byte} {effect : State → State} {damaged : Bool} (h : s.InRange)
    (hc : routedFrame c = some (frame, effect)) (hvalid : drainHeaderValid (headerOf frame) = true)
    (hgood : dropCause? frame damaged = none) : (effect s).InRange := by
  cases c with
  | ack part x =>
    cases hc
    dsimp only
    split
    · exact h.takeAck _ _ _
    · exact h.strayReturn _ _ _
  | replay part x =>
    cases hc
    dsimp only
    split
    · exact h.takeReplay _ _ _
    · exact h.strayReturn _ _ _
  | hold frame =>
    cases hc
    dsimp only
    split
    · refine h.mapStreams fun _ hx => ?_
      split
      · exact hx
      · exact hx.hold
    · split
      · exact h.updateStream _ fun _ hx => hx.hold
      · exact h.strayReturn _ _ _
  | resume frame =>
    cases hc
    dsimp only
    split
    · refine h.mapStreams fun _ hx => ?_
      split
      · exact hx
      · exact hx.resume
    · split
      · exact h.updateStream _ fun _ hx => hx.resume
      · exact h.strayReturn _ _ _
  | consumerNote part x => cases hc; exact h.backNoteArrives (note_payload_length hvalid hgood)
  | consumerNoteTaken frame => cases hc; exact h.forwardNoteTaken _
  | _ => cases hc

theorem drain {c : Instr} (h : s.InRange) (he : ReturnEffect c s t) : t.InRange := by
  cases he with
  | held hc opens symbols => exact h.receive opens symbols
  | restarted hc opens symbols => exact (h.receive opens symbols).returnStarts
  | ended hc opens symbols => exact (h.receive opens symbols).setDrainRx trivial
  | malformed hc opens symbols =>
    have hended := (h.receive opens symbols).setDrainRx (r := .awaitStart) trivial
    exact { hended with }
  | checkError hc opens symbols =>
    have hended := (h.receive opens symbols).setDrainRx (r := .awaitStart) trivial
    exact { hended with }
  | routed hc opens symbols hrx hgood =>
    have hheld := (h.receive opens symbols).drainRx
    rw [hrx] at hheld
    refine State.InRange.routed (State.InRange.setDrainRx (h.receive opens symbols) (r := .awaitStart) trivial) hc (hheld ?_) hgood
    by_contra hshort
    simp [dropCause?, Nat.lt_of_not_le hshort] at hgood

/-! ### Completions -/

theorem completion {c : Instr} (h : s.InRange) (he : CompletionEffect c s t) : t.InRange := by
  cases he with
  | @data record resident d x htx =>
    have hfree : ({ s with drainTx := none } : State).InRange := { h with drainTx := trivial }
    unfold State.completeData
    dsimp only
    split
    · exact hfree.updateStream _ fun _ hx => hx.completed
    · exact hfree.deferredReturn _
  | forwardNote htx => exact { h with drainTx := trivial, notes := { h.notes with forward := h.notes.forward.complete } }
  | noteDone htx =>
    have htally := h.drainTx
    rw [htx] at htally
    exact { h with drainTx := trivial, notes := { h.notes with doneToConsumer := htally } }
  | noteRefused htx =>
    have htally := h.drainTx
    rw [htx] at htally
    exact { h with drainTx := trivial, notes := { h.notes with refusedToConsumer := htally } }
  | resetting straps htx hends => exact deviceReset h.cells straps
  | response straps htx hends => exact { h with slots := (freeOldestAnswer_length s.slots).trans h.slots }
  | backNote htx => exact { h with notes := { h.notes with back := h.notes.back.complete } }
  | feedFrame htx hresponse hnote => exact { h with }

/-! ### Requests (R147 to R160) -/

theorem writeConfig (h : s.InRange) (v : Tag) {c : StreamConfig} (hc : c.inRange = true) : (s.writeConfig v c).InRange := by
  have hwritten : (s.updateStream v fun x => { x with config := c, budget := min x.budget c.replayBudget }).InRange :=
    h.updateStream v fun _ hx => { config := hc, budget := Nat.min_le_right _ _, timer := hx.timer }
  unfold State.writeConfig
  dsimp only
  split
  · exact hwritten
  · exact hwritten.evaluateFlow v

theorem collapseAll (h : s.InRange) (v : Tag) (f : Stream → Serial) :
    ((s.releaseAll v).updateStream v fun x => x.collapse (f x)).InRange :=
  updateStream (h.release v _) v fun _ hx => { hx with timer := trivial }

theorem discardClose (h : s.InRange) (v : Tag) : (s.discardClose v).InRange :=
  (enterClosed (h.collapseAll v _) v).evaluatePoolFrom _

theorem flush (h : s.InRange) (v : Tag) (serial : Serial) : (s.flush v serial).InRange := by
  refine evaluatePoolFrom (evaluateFlowFrom ?_ _ _) _
  split
  · exact (h.collapseAll v fun _ => serial).closeDrained v .flushed
  · exact h.collapseAll v fun _ => serial

theorem discardStream (h : s.InRange) (v : Tag) : (s.discardStream v).InRange := by
  have hemptied := h.collapseAll v fun y => y.tail
  unfold State.discardStream
  dsimp only
  split
  · exact h
  · exact hemptied.evaluateFlowFrom _ _
  · exact hemptied.closeDrained _ _
  · refine evaluateFlowFrom (updateStream hemptied v fun _ hx => ?_) _ _
    exact { config := hx.config, budget := Nat.le_refl _, timer := trivial }

theorem discardAllStreams (h : s.InRange) : s.discardAllStreams.InRange := by
  refine evaluatePoolFrom ?_ _
  generalize allTags = tags
  induction tags generalizing s with
  | nil => exact h
  | cons v rest ih => exact ih (h.discardStream v)

theorem plainCommand (h : s.InRange) (r : Request) {effect : State → Answer} (he : (effect s).state.InRange) :
    (plainCommand r s effect).state.InRange := by
  unfold Machine.plainCommand
  split
  · exact h
  · split
    · exact h
    · exact he

theorem closeByDrain (h : s.InRange) (v : Tag) : (s.closeByDrain v).state.InRange := by
  unfold State.closeByDrain
  split
  case h_4 =>
    split
    · exact h.enterClosed v
    · exact h.updateStream v fun _ hx => { hx with }
  all_goals exact h

theorem closeByDiscard (h : s.InRange) (v : Tag) : (s.closeByDiscard v).state.InRange := by
  unfold State.closeByDiscard
  split
  · exact h
  all_goals exact h.discardClose v

theorem request {c : Instr} {effect : Request → State → Answer} (h : s.InRange) (hc : requestEffect c = some effect)
    (r : Request) : (effect r s).state.InRange := by
  cases c with
  | identify => cases hc; exact h.plainCommand r h
  | readSettings => cases hc; exact h.plainCommand r h
  | writeSettings =>
    cases hc
    unfold answerWriteSettings
    split
    · exact h
    · split
      · exact h
      · next x hx =>
        refine State.InRange.evaluatePool { h with settings := ?_ }
        exact (settingsInRange_iff x).2 (settingsRecord_eq_some.1 hx).1
  | readStream =>
    cases hc
    unfold answerReadStream
    split
    · exact h
    · split <;> exact h
  | writeStream =>
    cases hc
    unfold answerWriteStream
    split
    · exact h
    · split
      · exact h
      · next x hx =>
        split
        · exact h
        · exact h.writeConfig _ ((StreamConfig.inRange_iff x).2 (configBlock_eq_some.1 hx).1)
  | openStream =>
    cases hc
    unfold answerOpenStream
    split
    · exact h
    · split
      · exact h
      · split
        · exact h
        · split
          · exact h
          · exact h.openAt _ _
  | closeStreamDrain =>
    cases hc
    unfold answerCloseStream
    split
    · exact h
    · split
      · exact h
      · exact h.closeByDrain _
      · exact h.closeByDiscard _
  | closeStreamDiscard =>
    cases hc
    unfold answerCloseStream
    split
    · exact h
    · split
      · exact h
      · exact h.closeByDrain _
      · exact h.closeByDiscard _
  | flushStream =>
    cases hc
    unfold answerFlushStream
    split
    · exact h
    · split
      · exact h
      · split
        · exact h
        · exact h.flush _ _
  | restartStream =>
    cases hc
    unfold answerRestartStream
    split
    · exact h
    · split
      · exact h
      · split
        · exact h
        · exact h.updateStream _ fun _ hx => { config := hx.config, budget := Nat.le_refl _, timer := trivial }
  | readCounters =>
    cases hc
    unfold answerReadCounters
    split
    · split
      · exact h
      · show State.InRange (if _ then _ else _)
        split
        · exact { h with }
        · exact h
    · split
      · exact h
      · split
        · exact h
        · show State.InRange (if _ then _ else _)
          split
          · exact h.countStream _ _
          · exact h
  | clearNote =>
    cases hc
    unfold answerClearNote
    split
    · exact h
    · split
      · exact h
      · exact { h with notes := { h.notes with forward := h.notes.forward.clear } }
      · exact { h with notes := { h.notes with back := h.notes.back.clear } }
  | discardAll =>
    cases hc
    refine h.plainCommand r ?_
    dsimp only [Answer.ok]
    exact h.discardAllStreams
  | resetDevice => cases hc; exact h.plainCommand r { h with }
  | unknownCommand => cases hc; exact h
  | _ => cases hc

theorem answer (h : s.InRange) (r : Request) (status : Status) (result : List Byte) : (s.answer r status result).InRange :=
  engineTake { h with slots := (answerExecuting_length _ s.slots).le.trans h.slots }

theorem beside {c : Instr} (h : s.InRange) (he : BesideEffect c s t) : t.InRange := by
  cases he with
  | notTaken hc hawake => exact h
  | feed hawake he => exact h.feed he
  | drain hawake he => exact h.drain he
  | complete hawake he => exact h.completion he
  | carrier present => exact h.setCarrierPin present
  | answer hc hphase hr => exact (h.request hc _).answer _ _ _

theorem exec {c : Instr} (h : s.InRange) (he : exec c s = .next t) : t.InRange := by
  cases exec_next_cases he with
  | own he => exact h.own he
  | alone he => exact h.settle.alone he
  | beside he => exact h.found.beside he

end State.InRange

/-- Settles O59: each kind of effect keeps the ranges, and so does everything that is owed. -/
theorem everyStepKeepsRanges : Obligations.EveryStepKeepsRanges := by
  intro s t h hstep
  unfold step at hstep
  split at hstep
  · cases hstep; exact h
  · next c rest hpending =>
    have hrest : ({ s with pending := rest } : State).InRange := { h with }
    exact hrest.exec hstep

end Sys2Proof.Machine
end

section
/-!
Power, RESET_N and device reset (O1, O4 to O10), events and ATTN_N (O55, O57), and which commands act on the state that
`State.settle` leaves or on the one that they find.
-/

namespace Sys2Proof.Machine

/-- Settles O1: both halves are the two equations of `step`. -/
theorem stepRunsFrontCommand : Obligations.StepRunsFrontCommand := fun _ _ _ => ⟨rfl, rfl⟩

/-- Settles O55: the mask bit, the room in the queue and the ceiling of the count decide. -/
theorem eventsAreMaskedQueuedOrLost : Obligations.EventsAreMaskedQueuedOrLost := by
  intro x b e
  refine ⟨fun hmasked => ?_, fun henabled hroom => ?_, fun henabled hfull hcount => ?_, fun henabled hfull hcount => ?_⟩
  · simp [Settings.record, hmasked]
  · simp [Settings.record, henabled, EventBlock.store, Config.eventQueueSize, hroom]
  · have hlost : min (b.lost + 1) 65535 = b.lost + 1 := by omega
    simp [Settings.record, henabled, EventBlock.store, Config.eventQueueSize, Config.lostMax, Nat.not_lt.2 hfull, hlost]
  · simp [Settings.record, henabled, EventBlock.store, Config.eventQueueSize, Config.lostMax, Nat.not_lt.2 hfull, hcount]
    cases b; subst hcount; rfl

section
variable {s t u : State} {c : Instr} {straps : Straps}

/-- R172: the level of ATTN_N of a part that runs with RESET_N high. -/
theorem State.attnN_eq_false_iff (hphase : s.phase = .running) (hpin : s.resetPin = .high) :
    s.attnN = false ↔ (∃ v, (s.stream v).state = .halted) ∨ s.pool.level = .low := by
  have hlevel : s.pool.level ≠ .normal ↔ s.pool.level = .low := by cases s.pool.level <;> simp
  simp only [State.attnN, hphase, hpin, State.streams_toList]
  simp [hlevel, allTags, imp_iff_not_or]

theorem State.attnN_of_inReset (hphase : s.phase = .inReset) : s.attnN = true := by simp [State.attnN, hphase]

theorem State.attnN_of_pin (hpin : s.resetPin ≠ .high) : s.attnN = true := by simp [State.attnN, hpin]

/-! ### What a command that is not an own step acts on -/

/-- Power, RESET_N and the tick: the commands that stand alone. -/
def StandsAlone (c : Instr) : Prop :=
  c = .tick ∨ (∃ high, c = .powerUp high) ∨ (∃ pulse, c = .resetNLow pulse) ∨ ∃ straps, c = .deviceReset straps

theorem exec_of_alone (h : StandsAlone c) : ∃ effect : State → Result, ∀ s, exec c s = s.afterOwed effect := by
  obtain rfl | ⟨high, rfl⟩ | ⟨pulse, rfl⟩ | ⟨straps, rfl⟩ := h
  · exact ⟨_, fun s => Eq.refl (execTick s)⟩
  · exact ⟨_, fun s => Eq.refl (execPowerUp high s)⟩
  · exact ⟨_, fun s => Eq.refl (execResetNLow pulse s)⟩
  · exact ⟨_, fun s => Eq.refl (execDeviceReset straps s)⟩

theorem exists_input_of_endStaged {f : State → Result} {kind : Byte} {mnemonic : String} {symbols : List LaneSymbol}
    {handOn : List Byte → State → State} (h : ∀ s, f s = s.endStaged kind mnemonic symbols handOn) :
    ∃ effect : State → Result, ∀ s : State, f s = s.onInput effect :=
  ⟨_, fun s => (h s).trans (Eq.refl (s.endStaged kind mnemonic symbols handOn))⟩

theorem exists_input_of_onReturn {f : State → Result} {mnemonic : String} {part : FramePart} {frame : List Byte}
    {act : State → State} (h : ∀ s, f s = s.onReturn mnemonic part frame act) :
    ∃ effect : State → Result, ∀ s : State, f s = s.onInput effect :=
  ⟨_, fun s => (h s).trans (Eq.refl (s.onReturn mnemonic part frame act))⟩

theorem exists_beside_of_onTransmission {f : State → Result} {mnemonic : String} {act : State → Result}
    (h : ∀ s, f s = s.onTransmission mnemonic act) : ∃ effect : State → Result, ∀ s : State, f s = s.besideOwed effect :=
  ⟨_, fun s => (h s).trans (Eq.refl (s.onTransmission mnemonic act))⟩

theorem exists_beside_of_effectStep {f : State → Result} {mnemonic : String} {takes : Request → Bool}
    {act : Request → State → Answer} (h : ∀ s, f s = s.effectStep mnemonic takes act) :
    ∃ effect : State → Result, ∀ s : State, f s = s.besideOwed effect :=
  ⟨_, fun s => (h s).trans (Eq.refl (s.effectStep mnemonic takes act))⟩

/-- R106, R162: every row of the two links is input. -/
theorem exec_of_link (h : c.origin = .feedLink ∨ c.origin = .drainLink) :
    ∃ effect : State → Result, ∀ s, exec c s = s.onInput effect := by
  cases c with
  | feedHeader symbols => exact ⟨_, fun s => Eq.refl (execFeedHeader symbols s)⟩
  | dataFrameEnd symbols => exact ⟨_, fun s => Eq.refl (execDataFrameEnd symbols s)⟩
  | feedFrameCutShort marker symbols => exact ⟨_, fun s => Eq.refl (execFeedFrameCutShort marker symbols s)⟩
  | feedFrameIgnored symbols => exact ⟨_, fun s => Eq.refl (execFeedFrameIgnored symbols s)⟩
  | skippingFrameEnd symbols => exact ⟨_, fun s => Eq.refl (execSkippingFrameEnd symbols s)⟩
  | drainFrameDropped extent symbols => exact ⟨_, fun s => Eq.refl (execDrainFrameDropped extent symbols s)⟩
  | returnFrameDiscarded portion => exact ⟨_, fun s => Eq.refl (execReturnFrameDiscarded portion s)⟩
  | requestArrival symbols => exact exists_input_of_endStaged fun s => Eq.refl (execRequestArrival symbols s)
  | producerNote symbols => exact exists_input_of_endStaged fun s => Eq.refl (execProducerNote symbols s)
  | producerNoteTaken symbols => exact exists_input_of_endStaged fun s => Eq.refl (execProducerNoteTaken symbols s)
  | ack part fields => exact exists_input_of_onReturn fun s => Eq.refl (execAck part fields s)
  | replay part fields => exact exists_input_of_onReturn fun s => Eq.refl (execReplay part fields s)
  | hold frame => exact exists_input_of_onReturn fun s => Eq.refl (execHold frame s)
  | resume frame => exact exists_input_of_onReturn fun s => Eq.refl (execResume frame s)
  | consumerNote part fields => exact exists_input_of_onReturn fun s => Eq.refl (execConsumerNote part fields s)
  | consumerNoteTaken frame => exact exists_input_of_onReturn fun s => Eq.refl (execConsumerNoteTaken frame s)
  | _ => simp [Instr.origin] at h

theorem exec_of_not_alone (hown : c.ownStep = false) (h : ¬ StandsAlone c) :
    ∃ effect : State → Result, ∀ s, exec c s = s.besideOwed effect := by
  by_cases hlink : c.origin = .feedLink ∨ c.origin = .drainLink
  · obtain ⟨effect, heffect⟩ := exec_of_link hlink
    exact ⟨_, fun s => (heffect s).trans (Eq.refl (s.onInput effect))⟩
  cases c with
  | powerUp | resetNLow | deviceReset | tick => exact absurd (by simp [StandsAlone]) h
  | timerExpiry | carrierSettled | dataTransmissionStart | forwardNoteStart | drainIndicationStart | flowFrameStart
  | feedIndicationStart | responseStart | backNoteStart | eventFrameStart => cases hown
  | carrierPresent => exact ⟨_, fun s => Eq.refl (execCarrierPresent s)⟩
  | carrierAbsent => exact ⟨_, fun s => Eq.refl (execCarrierAbsent s)⟩
  | dataTransmissionComplete => exact exists_beside_of_onTransmission fun s => Eq.refl (execDataTransmissionComplete s)
  | forwardNoteComplete => exact exists_beside_of_onTransmission fun s => Eq.refl (execForwardNoteComplete s)
  | drainIndicationComplete => exact exists_beside_of_onTransmission fun s => Eq.refl (execDrainIndicationComplete s)
  | responseComplete straps => exact exists_beside_of_onTransmission fun s => Eq.refl (execResponseComplete straps s)
  | backNoteComplete => exact exists_beside_of_onTransmission fun s => Eq.refl (execBackNoteComplete s)
  | feedFrameComplete => exact exists_beside_of_onTransmission fun s => Eq.refl (execFeedFrameComplete s)
  | identify => exact exists_beside_of_effectStep fun s => Eq.refl (execIdentify s)
  | readSettings => exact exists_beside_of_effectStep fun s => Eq.refl (execReadSettings s)
  | writeSettings => exact exists_beside_of_effectStep fun s => Eq.refl (execWriteSettings s)
  | readStream => exact exists_beside_of_effectStep fun s => Eq.refl (execReadStream s)
  | writeStream => exact exists_beside_of_effectStep fun s => Eq.refl (execWriteStream s)
  | openStream => exact exists_beside_of_effectStep fun s => Eq.refl (execOpenStream s)
  | closeStreamDrain => exact exists_beside_of_effectStep fun s => Eq.refl (execCloseStreamDrain s)
  | closeStreamDiscard => exact exists_beside_of_effectStep fun s => Eq.refl (execCloseStreamDiscard s)
  | flushStream => exact exists_beside_of_effectStep fun s => Eq.refl (execFlushStream s)
  | restartStream => exact exists_beside_of_effectStep fun s => Eq.refl (execRestartStream s)
  | readCounters => exact exists_beside_of_effectStep fun s => Eq.refl (execReadCounters s)
  | clearNote => exact exists_beside_of_effectStep fun s => Eq.refl (execClearNote s)
  | discardAll => exact exists_beside_of_effectStep fun s => Eq.refl (execDiscardAll s)
  | resetDevice => exact exists_beside_of_effectStep fun s => Eq.refl (execResetDevice s)
  | unknownCommand => exact exists_beside_of_effectStep fun s => Eq.refl (execUnknownCommand s)
  | _ => simp [Instr.origin] at hlink

/-- A command that is not an own step sees no more of a state than what settling it leaves and what is found of it. -/
theorem exec_congr_of_settle (hown : c.ownStep = false) (hsettle : u.settle = s.settle) (hfound : u.found = s.found) :
    exec c u = exec c s := by
  by_cases h : StandsAlone c
  · obtain ⟨effect, heffect⟩ := exec_of_alone h
    rw [heffect, heffect, State.afterOwed, State.afterOwed, hsettle]
  · obtain ⟨effect, heffect⟩ := exec_of_not_alone hown h
    rw [heffect, heffect, State.besideOwed, State.besideOwed, hfound]

theorem State.settle_of_owes_nothing (h : s.phase = .inReset ∨ s.Quiet) : s.settle = s := by
  obtain h | h := h
  · exact State.settle_inReset h
  · exact State.settle_of_quiet h

theorem State.found_of_owes_nothing (h : s.phase = .inReset ∨ s.Quiet) : s.found = s := by
  obtain h | h := h
  · exact State.found_inReset h
  · exact State.found_of_quiet h

theorem State.onInput_of_not_awake (effect : State → Result) (h : s.phase = .inReset ∨ s.Quiet) (hawake : ¬ s.Awake) :
    s.onInput effect = .next s := by
  unfold State.onInput State.besideOwed
  rw [State.found_of_owes_nothing h]
  exact if_neg hawake

theorem State.onTransmission_of_not_awake (mnemonic : String) (effect : State → Result) (h : s.phase = .inReset ∨ s.Quiet)
    (hawake : ¬ s.Awake) : s.onTransmission mnemonic effect = .refused (.notPossible mnemonic) := by
  unfold State.onTransmission State.besideOwed
  rw [State.found_of_owes_nothing h]
  exact if_neg hawake

/-- R106, R162: a part that is not awake takes no input from either link. -/
theorem exec_link_of_not_awake (hc : c.origin = .feedLink ∨ c.origin = .drainLink) (h : s.phase = .inReset ∨ s.Quiet)
    (hawake : ¬ s.Awake) : exec c s = .next s := by
  obtain ⟨effect, heffect⟩ := exec_of_link hc
  rw [heffect, State.onInput_of_not_awake effect h hawake]

/-- R102, R162: a part that is not awake lets the CARRIER pin move and does not follow it. -/
theorem exec_carrier_of_not_awake (h : s.phase = .inReset ∨ s.Quiet) (hawake : ¬ s.Awake) :
    exec .carrierPresent s = .next { s with carrierPin := true } ∧
      exec .carrierAbsent s = .next { s with carrierPin := false } := by
  constructor
  · show (Host.Outcome.next (s.found.setCarrierPin true) : Result) = _
    rw [State.found_of_owes_nothing h, State.setCarrierPin, if_neg hawake]
  · show (Host.Outcome.next (s.found.setCarrierPin false) : Result) = _
    rw [State.found_of_owes_nothing h, State.setCarrierPin, if_neg hawake]

end

/-- Settles O57. -/
theorem attnFollowsHaltAndPool : Obligations.AttnFollowsHaltAndPool := fun _ => State.attnN_eq_false_iff

/-- Settles O4: both commands are `State.holdInReset`, and a part held in reset is not awake. -/
theorem powerAndLowPulseHoldThePart : Obligations.PowerAndLowPulseHoldThePart := by
  intro s
  refine ⟨fun c hc howed => ?_, fun hphase => ?_⟩
  · obtain ⟨pin, hexec, hpin⟩ : ∃ pin, exec c s = .next (s.holdInReset pin) ∧ (c = .resetNLow .atLeast1us → pin = .low) := by
      obtain ⟨high, rfl⟩ | rfl := hc
      · exact ⟨_, congrArg (fun s : State => Host.Outcome.next (s.holdInReset _)) (State.settle_of_owes_nothing howed), nofun⟩
      · exact ⟨_, congrArg (fun s : State => Host.Outcome.next (s.holdInReset _)) (State.settle_of_owes_nothing howed),
          fun _ => rfl⟩
    exact ⟨_, hexec, rfl, rfl, rfl, rfl, rfl, State.attnN_of_inReset rfl, hpin, rfl⟩
  · have hawake : ¬ s.Awake := fun h => Phase.noConfusion (hphase.symm.trans h.1)
    obtain ⟨hpresent, habsent⟩ := exec_carrier_of_not_awake (.inl hphase) hawake
    refine ⟨fun c hc => exec_link_of_not_awake hc (.inl hphase) hawake, ?_, hpresent, habsent⟩
    show (match s.settle.phase with | .inReset => _ | .running => _) = _
    rw [State.settle_inReset hphase, hphase]

end Sys2Proof.Machine
end

section
/-!
The short pulse, the device reset and what it leaves (O5 to O10).
-/

namespace Sys2Proof.Machine

section
variable {s : State} {straps : Straps}

/-! ### The short pulse (R184) -/

theorem State.drainDecision_of_not_awake (h : ¬ s.Awake) : s.drainDecision = none := if_neg fun ha => h ha.1

theorem State.feedDecision_of_not_awake (h : ¬ s.Awake) : s.feedDecision = none := if_neg fun ha => h ha.1

theorem State.not_awake_of_lowShort : ¬ ({ s with resetPin := .lowShort } : State).Awake := fun h => ResetPin.noConfusion h.2

/-- What is owed does not depend on the pin, and a part that is not awake decides nothing. -/
theorem State.Quiet.lowShort (h : s.Quiet) : ({ s with resetPin := .lowShort } : State).Quiet := by
  obtain ⟨htimers, hcarrier, htick, -, -⟩ := h
  exact ⟨htimers, hcarrier, htick, State.drainDecision_of_not_awake State.not_awake_of_lowShort,
    State.feedDecision_of_not_awake State.not_awake_of_lowShort⟩

/-- R102, R103: a carrier that agrees with its pin stays as it is. -/
theorem State.followCarrier_of_agrees (h : s.carrierPin = true ↔ s.carrier ≠ .down) : s.followCarrier = s := by
  unfold State.followCarrier
  split
  case h_1 hpin hc => exact absurd hc (h.1 hpin)
  case h_6 hpin hc => exact absurd (h.2 (by simp [hc])) (by simp [hpin])
  case h_7 hpin hc => exact absurd (h.2 (by simp [hc])) (by simp [hpin])
  case h_8 hpin hc => exact absurd (h.2 (by simp [hc])) (by simp [hpin])
  all_goals rfl

/-- The completions, whose end is that of a transmission. -/
def EndsTransmission (c : Instr) : Prop :=
  (∃ straps, c = .responseComplete straps) ∨
    c ∈ [.dataTransmissionComplete, .forwardNoteComplete, .drainIndicationComplete, .backNoteComplete, .feedFrameComplete]

theorem exec_of_endsTransmission {c : Instr} (h : EndsTransmission c) :
    ∃ (mnemonic : String) (effect : State → Result), ∀ s, exec c s = s.onTransmission mnemonic effect := by
  simp only [EndsTransmission, List.mem_cons, List.not_mem_nil, or_false] at h
  rcases h with ⟨straps, rfl⟩ | rfl | rfl | rfl | rfl | rfl
  · exact ⟨_, _, fun s => Eq.refl (execResponseComplete straps s)⟩
  · exact ⟨_, _, fun s => Eq.refl (execDataTransmissionComplete s)⟩
  · exact ⟨_, _, fun s => Eq.refl (execForwardNoteComplete s)⟩
  · exact ⟨_, _, fun s => Eq.refl (execDrainIndicationComplete s)⟩
  · exact ⟨_, _, fun s => Eq.refl (execBackNoteComplete s)⟩
  · exact ⟨_, _, fun s => Eq.refl (execFeedFrameComplete s)⟩

/-- R171, R184: the starts and the completions are not possible in a part that is not awake and owes nothing. -/
theorem exec_transmission_of_not_awake {c : Instr} (hquiet : s.Quiet) (hawake : ¬ s.Awake)
    (hc : (∃ straps, c = .responseComplete straps) ∨
      c ∈ [.dataTransmissionStart, .dataTransmissionComplete, .forwardNoteStart, .forwardNoteComplete, .drainIndicationStart,
        .drainIndicationComplete, .flowFrameStart, .feedIndicationStart, .responseStart, .backNoteStart, .eventFrameStart,
        .backNoteComplete, .feedFrameComplete]) :
    ∃ mnemonic, exec c s = .refused (.notPossible mnemonic) := by
  by_cases hends : EndsTransmission c
  · obtain ⟨mnemonic, effect, heffect⟩ := exec_of_endsTransmission hends
    exact ⟨mnemonic, (heffect s).trans (State.onTransmission_of_not_awake mnemonic effect (.inr hquiet) hawake)⟩
  have hdrain := State.drainDecision_of_not_awake hawake
  have hfeed := State.feedDecision_of_not_awake hawake
  simp only [EndsTransmission, List.mem_cons, List.not_mem_nil, or_false] at hc hends
  rcases hc with hc | rfl | rfl | rfl | rfl | rfl | rfl | rfl | rfl | rfl | rfl | rfl | rfl | rfl
  · exact absurd (.inl hc) hends
  · exact ⟨_, by unfold exec execDataTransmissionStart; rw [hdrain]⟩
  · simp at hends
  · exact ⟨_, by unfold exec execForwardNoteStart; rw [hdrain]⟩
  · simp at hends
  · exact ⟨_, by unfold exec execDrainIndicationStart; rw [hdrain]⟩
  · simp at hends
  · exact ⟨_, by unfold exec execFlowFrameStart; rw [hfeed]⟩
  · exact ⟨_, by unfold exec execFeedIndicationStart; rw [hfeed]⟩
  · exact ⟨_, by unfold exec execResponseStart; rw [hfeed]⟩
  · exact ⟨_, by unfold exec execBackNoteStart; rw [hfeed]⟩
  · exact ⟨_, by unfold exec execEventFrameStart; rw [hfeed]⟩
  · simp at hends
  · simp at hends

/-- R184: the rising edge that ends a short pulse of a part that was ready. -/
theorem exec_deviceReset_of_lowShort (h : s.Ready) :
    exec (.deviceReset straps) { s with resetPin := .lowShort } =
      .next (if Config.shortPulseResets s.freeCount then State.deviceReset { s with freeCount := s.freeCount + 1 } straps
        else State.carryOn { s with freeCount := s.freeCount + 1 }) := by
  obtain ⟨⟨-, hpin⟩, hquiet⟩ := h
  have hrisen : ({ s with resetPin := .high, freeCount := s.freeCount + 1 } : State) = { s with freeCount := s.freeCount + 1 } := by
    rw [← hpin]
  calc exec (.deviceReset straps) { s with resetPin := .lowShort }
      = .next (State.endShortPulse { s with resetPin := .lowShort } straps) := by
        show execDeviceReset straps _ = _
        unfold execDeviceReset
        rw [State.afterOwed_quiet _ hquiet.lowShort]
    _ = _ := by
        unfold State.endShortPulse
        dsimp only
        rw [hrisen]

end

/-- Settles O5. -/
theorem shortPulseResetsOrCarriesOn : Obligations.ShortPulseResetsOrCarriesOn := by
  intro s hready
  have hawake : ¬ ({ s with resetPin := .lowShort } : State).Awake := State.not_awake_of_lowShort
  have hquiet : ({ s with resetPin := .lowShort } : State).Quiet := hready.2.lowShort
  obtain ⟨hpresent, habsent⟩ := exec_carrier_of_not_awake (.inr hquiet) hawake
  refine ⟨?_, State.attnN_of_pin (by simp), if_neg hawake, if_neg hawake,
    fun c hc => exec_link_of_not_awake hc (.inr hquiet) hawake,
    fun c hc => exec_transmission_of_not_awake hquiet hawake hc, hpresent, habsent, fun straps => ⟨fun hresets => ?_,
    fun hcarries hpin => ?_⟩⟩
  · show (Host.Outcome.next s.settle.shortPulse : Result) = _
    rw [State.settle_of_quiet hready.2, State.shortPulse, hready.1.2]
  · rw [exec_deviceReset_of_lowShort hready, if_pos hresets]
  · rw [exec_deviceReset_of_lowShort hready, if_neg (by simp [hcarries])]
    have hrisen : ({ s with freeCount := s.freeCount + 1 } : State).Awake := hready.1
    rw [State.carryOn, if_pos hrisen, State.followCarrier_of_agrees (s := { s with freeCount := s.freeCount + 1 }) hpin]

/-! ### The device reset (R4 to R6, R39, R162, R163) -/

section
variable {s u : State} {straps : Straps}

/-- A device reset keeps only the pins, the cells and what the model counts. -/
theorem State.deviceReset_congr (hpin : u.resetPin = s.resetPin) (hcarrier : u.carrierPin = s.carrierPin) (hcells : u.cells = s.cells)
    (hcount : u.freeCount = s.freeCount) (hpending : u.pending = s.pending) : u.deviceReset straps = s.deviceReset straps := by
  have hblocks : u.resetBlocks straps = s.resetBlocks straps := by
    unfold State.resetBlocks
    rw [hpin, hcarrier, hcells, hcount, hpending]
  unfold State.deviceReset
  rw [hblocks]

end

/-- Settles O6. -/
theorem deviceResetCommands : Obligations.DeviceResetCommands := by
  intro s
  refine ⟨fun r answered queued h hcommand htarget hparameters => ?_, fun straps => ⟨fun hpin => ?_, fun hpin => ?_,
    fun a hawake htx hpending hcommand hstatus => ?_⟩⟩
  · have heffect : answerResetDevice r s = .ok { s with resetPending := true } [] := by
      simp [answerResetDevice, plainCommand, htarget, hparameters]
    have hstep := State.effectStep_eq h "RESET_DEVICE" (fun r => r.command == commandResetDevice) answerResetDevice
      (by simp [hcommand, commandResetDevice]) (by rw [heffect]; rfl)
    rw [heffect] at hstep
    exact hstep
  · show (match s.settle.resetPin with | .lowShort => _ | .low => _ | .high => _) = _
    rw [State.settle_resetPin, hpin]
    exact congrArg _ (State.deviceReset_settle s straps)
  · show (match s.settle.resetPin with | .lowShort => _ | .low => _ | .high => _) = _
    rw [State.settle_resetPin, hpin]
    refine congrArg Host.Outcome.next (State.deviceReset_congr rfl ?_ ?_ ?_ ?_)
    · exact State.settle_carrierPin s
    · exact State.settle_cells s
    · exact State.settle_freeCount s
    · exact State.settle_pending s
  · have hfound : s.found.Awake := by simpa [State.Awake] using hawake
    have hends : s.found.endsInReset a = true := by
      simp [State.endsInReset, hpending, hcommand, hstatus, commandResetDevice]
    unfold exec execResponseComplete State.onTransmission State.besideOwed
    dsimp only
    rw [if_pos hfound, State.found_feedTx_of_some htx]
    dsimp only
    rw [if_pos hends, State.deviceReset_found]

/-! ### What a device reset leaves -/

section
variable (s : State) (straps : Straps) (t : Tag)

theorem profileConfig_row :
    ((profileConfig (sampledProfile straps) t).streamClass, (profileConfig (sampledProfile straps) t).window,
      (profileConfig (sampledProfile straps) t).ackTimeout, (profileConfig (sampledProfile straps) t).replayBudget,
      (profileConfig (sampledProfile straps) t).highWatermark, (profileConfig (sampledProfile straps) t).lowWatermark,
      (profileConfig (sampledProfile straps) t).cellLimit) = profileRow straps.prof1 straps.prof0 := by
  unfold sampledProfile
  cases straps.prof1 <;> cases straps.prof0 <;> rfl

theorem State.deviceReset_pool : (s.deviceReset straps).pool =
    { freeCells := List.range 8192, freeRecords := List.range 2048, level := .normal } := by
  rw [State.deviceReset_frame]
  rfl

/-- R4: a stream's record after a device reset, but for what AUTOOPEN decides. -/
theorem State.stream_deviceReset_eq :
    (s.deviceReset straps).stream t =
      { config := profileConfig (sampledProfile straps) t, state := if straps.autoopen then .opened else .closed
        budget := (profileConfig (sampledProfile straps) t).replayBudget } := by
  rw [State.stream_deviceReset, State.stream_resetBlocks]
  have hhigh : 1 ≤ (profileConfig (sampledProfile straps) t).highWatermark := by
    have hvalid := (StreamConfig.inRange_iff _).1 (State.InRange.profileConfig_inRange (sampledProfile straps) t)
    obtain ⟨-, -, -, -, -, h, -⟩ := hvalid
    exact h
  split
  · simp [Stream.openedAt, Stream.opening, Stream.collapse, Nat.not_le.2 hhigh]
  · simp

end

/-- Settles O7. -/
theorem deviceResetStreams : Obligations.DeviceResetStreams := by
  intro s straps t
  rw [State.stream_deviceReset_eq]
  exact ⟨⟨profileConfig_drainTag _ t, profileConfig_row straps t⟩, ⟨rfl, rfl, rfl, rfl, rfl, rfl, rfl, rfl, rfl, rfl, rfl, rfl, rfl,
    rfl, rfl⟩, State.mapped_deviceReset s straps⟩

/-- Settles O8. -/
theorem deviceResetPoolAndManagement : Obligations.DeviceResetPoolAndManagement := by
  intro s straps
  have hpool := State.deviceReset_pool s straps
  simp only [hpool, List.length_range, true_and, and_true]
  refine ⟨⟨fun n hn => ?_, ?_, ?_, ?_⟩, ?_, ?_, ?_, ?_⟩
  · simp [State.custody, hpool, hn]
  all_goals rw [State.deviceReset_frame]; rfl

/-- Settles O9. -/
theorem deviceResetOtherBlocks : Obligations.DeviceResetOtherBlocks := by
  intro s straps
  have hattn : s.resetPin = .high → (s.deviceReset straps).attnN = true := by
    intro hpin
    have hphase : (s.deviceReset straps).phase = .running := by rw [State.deviceReset_frame]; rfl
    have hhigh : (s.deviceReset straps).resetPin = .high := by rw [State.deviceReset_frame]; exact hpin
    have hlevel : (s.deviceReset straps).pool.level = .normal := by rw [State.deviceReset_frame]; rfl
    refine Bool.eq_true_of_not_eq_false fun hlow => ?_
    obtain ⟨v, hv⟩ | hl := (State.attnN_eq_false_iff hphase hhigh).1 hlow
    · rw [State.stream_deviceReset_eq] at hv
      cases h : straps.autoopen <;> simp [h] at hv
    · exact PoolLevel.noConfusion (hlevel.symm.trans hl)
  dsimp only
  refine ⟨?_, ?_, ?_, ?_, ?_, ?_, ?_, ?_, ?_, ?_, ?_, ?_, ?_, ?_, ?_, ?_, hattn, ?_⟩
  all_goals rw [State.deviceReset_frame]
  case refine_8 => intro c; fin_cases c <;> rfl
  case refine_14 =>
    show [startedRecord straps] = _
    unfold startedRecord sampledProfile
    cases straps.prof1 <;> cases straps.prof0 <;> cases straps.autoopen <;> rfl
  case refine_15 =>
    show (sampledProfile straps).val = _
    unfold sampledProfile
    cases straps.prof1 <;> cases straps.prof0 <;> rfl
  case refine_17 => exact fun _ => rfl
  all_goals rfl

/-! ### The first frame after a device reset (R162, R169, R170) -/

section
variable (s : State) (straps : Straps)

/-- R182: the DEVICE-STARTED record, with its detail as a number. -/
theorem startedRecord_eq : startedRecord straps =
    { kind := .deviceStarted, streamTag := 0#8, drainTag := 255#8, serial := 0xFFFF#16
      detail := BitVec.ofNat 16 (256 * straps.autoopen.toNat + 2 * straps.prof1.toNat + straps.prof0.toNat) } := by
  unfold startedRecord sampledProfile
  cases straps.prof1 <;> cases straps.prof0 <;> cases straps.autoopen <;> rfl

/-- R103: right after a device reset the carrier is DOWN or begins to settle. -/
theorem State.deviceReset_carrier : (s.deviceReset straps).carrier = .down ∨ (s.deviceReset straps).carrier = .settling 50 := by
  rw [State.deviceReset_frame]
  show carrierFrom s.carrierPin 50 = _ ∨ carrierFrom s.carrierPin 50 = _
  cases s.carrierPin
  · exact .inl rfl
  · exact .inr rfl

theorem State.deviceReset_drainDecision : (s.deviceReset straps).drainDecision = none := by
  refine if_neg fun h => ?_
  obtain h' | h' := State.deviceReset_carrier s straps <;> rw [h'] at h <;> cases h.2.2

theorem State.deviceReset_timer (t : Tag) : ((s.deviceReset straps).stream t).timer = .idle := by
  rw [State.stream_deviceReset_eq]

/-- R170: the only thing that waits is the DEVICE-STARTED record. -/
theorem State.deviceReset_feedDecision (hpin : s.resetPin = .high) :
    (s.deviceReset straps).feedDecision = some (.event (startedRecord straps)) := by
  refine State.feedDecision_eq_some.2 ⟨⟨⟨?_, ?_⟩, ?_⟩, ⟨?_, fun t => ?_⟩, ?_, ?_, ?_, ?_, ?_, rfl⟩
  case refine_5 => rw [State.stream_deviceReset_eq]
  all_goals rw [State.deviceReset_frame]
  case refine_2 => exact hpin
  case refine_8 => exact fun a => List.not_mem_nil
  case refine_9 => exact nofun
  all_goals rfl

theorem State.deviceReset_settle_eq (hpin : s.resetPin = .high) :
    (s.deviceReset straps).settle = (s.deviceReset straps).startFeed (.event (startedRecord straps)) := by
  have hphase : (s.deviceReset straps).phase = .running := by rw [State.deviceReset_frame]; rfl
  have htick : (s.deviceReset straps).takeTick = s.deviceReset straps := by
    refine State.takeTick_of_none (fun t => ?_) ?_
    · rw [State.deviceReset_timer]; exact nofun
    · obtain h | h := State.deviceReset_carrier s straps <;> rw [h] <;> exact nofun
  have hatTick : (s.deviceReset straps).atTick = false := by rw [State.deviceReset_frame]; rfl
  rw [State.settle_running hphase, htick, State.decideDrain_of_none (State.deviceReset_drainDecision s straps),
    State.decideFeed_of_some (State.deviceReset_feedDecision s straps hpin), State.setAtTick, ← hatTick]
  rfl

/-- With no command to fall together with the last tick, a command finds what settling leaves. -/
theorem State.found_eq_settle {s : State} (h : s.atTick = false) : s.found = s.settle := by
  obtain ⟨hphase, hfound⟩ | ⟨-, htick, -⟩ | ⟨-, -, hfound⟩ := State.found_cases s
  · rw [hfound, State.settle_inReset hphase]
  · rw [h] at htick; cases htick
  · exact hfound

end

/-- Settles O10. -/
theorem deviceStartedIsFirstFrame : Obligations.DeviceStartedIsFirstFrame := by
  intro s straps hpin
  have hfeed := State.deviceReset_feedDecision s straps hpin
  have hdrain := State.deviceReset_drainDecision s straps
  have hatTick : (s.deviceReset straps).atTick = false := by rw [State.deviceReset_frame]; rfl
  have hstart : (s.deviceReset straps).startFeed (.event (startedRecord straps)) = { s.deviceReset straps with
      feedTx := some (.event (startedRecord straps) 0), events := { queue := [], lost := 0 } } := by
    have hevents : (s.deviceReset straps).events = { queue := [startedRecord straps], lost := 0 } := by
      rw [State.deviceReset_frame]; rfl
    unfold State.startFeed
    rw [hevents]
    rfl
  have hsettle := State.deviceReset_settle_eq s straps hpin
  rw [hstart] at hsettle
  rw [← startedRecord_eq]
  refine ⟨?_, fun c hown hc => ?_, fun c hown => exec_congr_of_settle hown ?_ ?_⟩
  · rw [← hstart]
    unfold exec execEventFrameStart
    rw [hfeed]
  · cases c with
    | timerExpiry t =>
      exact ⟨_, if_neg fun h => Timer.noConfusion (h.2.symm.trans (State.deviceReset_timer s straps t))⟩
    | carrierSettled =>
      refine ⟨_, if_neg fun h => ?_⟩
      obtain h' | h' := State.deviceReset_carrier s straps <;> rw [h'] at h <;> cases h.2
    | dataTransmissionStart => exact ⟨_, by unfold exec execDataTransmissionStart; rw [hdrain]⟩
    | forwardNoteStart => exact ⟨_, by unfold exec execForwardNoteStart; rw [hdrain]⟩
    | drainIndicationStart => exact ⟨_, by unfold exec execDrainIndicationStart; rw [hdrain]⟩
    | flowFrameStart => exact ⟨_, by unfold exec execFlowFrameStart; rw [hfeed]⟩
    | feedIndicationStart => exact ⟨_, by unfold exec execFeedIndicationStart; rw [hfeed]⟩
    | responseStart => exact ⟨_, by unfold exec execResponseStart; rw [hfeed]⟩
    | backNoteStart => exact ⟨_, by unfold exec execBackNoteStart; rw [hfeed]⟩
    | eventFrameStart => exact absurd rfl hc
    | _ => cases hown
  · rw [← hsettle, State.settle_settle]
  · rw [State.found_eq_settle hatTick, State.found_eq_settle (s := { s.deviceReset straps with
      feedTx := some (.event (startedRecord straps) 0), events := { queue := [], lost := 0 } }) hatTick, ← hsettle,
      State.settle_settle]

end Sys2Proof.Machine
end

section
/-!
The feed link: headers, admission, frame ends and frames cut short (O11 to O13, O15 to O20).
-/

namespace Sys2Proof.Machine

/-! ### Headers and admission (R40 to R49) -/

section
variable {s : State} {symbols : List LaneSymbol} {bytes : List Byte} {damaged : Bool} {t : Tag} {length : Nat} {body : List Byte}
  {running : CheckWord}

theorem exec_feedHeader_ready (h : s.Ready) (hb : s.sinceStart symbols = some (bytes, damaged)) :
    exec (.feedHeader symbols) s = .next ((s.drawFree (undecodedIn symbols)).takeHeader bytes damaged) :=
  State.execFeedHeader_ready h hb

/-- R44, R45: a frame for a stream that is not OPEN is counted and skipped. -/
theorem State.takeData_refusedState (h : s.admission t (cellsFor length) = .refusedState) :
    s.takeData t length body running damaged =
      (s.countStream t fun c => { c with refusedState := c.refusedState + 1#32 }).setFeedRx (.skipping body.length) := by
  simp only [State.takeData, h]

theorem State.takeData_refusedLimit (h : s.admission t (cellsFor length) = .refusedLimit) :
    s.takeData t length body running damaged = (s.refuseLimit t).setFeedRx (.skipping body.length) := by
  simp only [State.takeData, h]

theorem State.takeData_refusedPool (h : s.admission t (cellsFor length) = .refusedPool) :
    s.takeData t length body running damaged =
      (s.countStream t fun c => { c with refusedPool := c.refusedPool + 1#32 }).setFeedRx (.skipping body.length) := by
  simp only [State.takeData, h]

theorem State.takeData_admitted (h : s.admission t (cellsFor length) = .admitted) :
    s.takeData t length body running damaged = s.beginStoring t length body running damaged := by
  simp only [State.takeData, h]

/-- R46: the first cell-limit refusal of a run raises OVERRUN and sets the flag. -/
theorem State.refuseLimit_first (h : (s.stream t).overrunReported = false) :
    s.refuseLimit t = { s.setStream t { s.stream t with
        counters := { (s.stream t).counters with refusedLimit := (s.stream t).counters.refusedLimit + 1#32 }
        overrunReported := true } with
      events := s.settings.record s.events
        { kind := .overrun, streamTag := BitVec.ofNat 8 t.number
          drainTag := BitVec.ofNat 8 (s.stream t).config.drainTag.val, serial := (s.stream t).tail.setWidth 16
          detail := BitVec.ofNat 16 (s.stream t).occupancy } } := by
  unfold State.refuseLimit
  simp only [h, Bool.false_eq_true, if_false]
  rw [State.raise_eq, State.countStream, State.updateStream_updateStream]
  rfl

theorem State.refuseLimit_again (h : (s.stream t).overrunReported = true) :
    s.refuseLimit t = s.setStream t { s.stream t with
      counters := { (s.stream t).counters with refusedLimit := (s.stream t).counters.refusedLimit + 1#32 } } := by
  unfold State.refuseLimit
  rw [if_pos h]
  rfl

/-! ### Reservation (R29) -/

/-- R29: the first cells and the first record leave the free lists, and the cells join the occupancy. -/
structure Reserved (s u : State) (t : Tag) (n : Nat) (records : List Nat) : Prop where
  freeCells : u.pool.freeCells = s.pool.freeCells.drop n
  freeRecords : u.pool.freeRecords = records
  stream : (s.stream t).state ≠ .closed →
    u.stream t = { s.stream t with occupancy := (s.stream t).occupancy + n, flow := (s.stream t).flowAt ((s.stream t).occupancy + n) }
  others : OtherStreams s u t
  pool : PoolFollows s u s.events
  frame : u = { s with pool := u.pool, streams := u.streams, events := u.events }

theorem State.reserve_eq {number : Nat} {records : List Nat} (h : s.pool.freeRecords = number :: records) (t : Tag) (length : Nat) :
    ∃ u, s.reserve t length = some (⟨number, t, none, length, s.pool.freeCells.take (cellsFor length)⟩, u) ∧
      Reserved s u t (cellsFor length) records := by
  let taken : State := { s with pool := { s.pool with freeCells := s.pool.freeCells.drop (cellsFor length), freeRecords := records } }
  let grown := taken.updateStream t fun x => { x with occupancy := x.occupancy + cellsFor length }
  refine ⟨(grown.evaluateFlowFrom t (s.stream t).occupancy).evaluatePoolFrom s.pool.freeCells.length, ?_, ?_⟩
  · unfold State.reserve
    rw [h]
  have hgrown : grown.stream t = { s.stream t with occupancy := (s.stream t).occupancy + cellsFor length } :=
    State.stream_updateStream_self taken t _
  refine ⟨by simp [grown, taken], by simp [grown, taken], fun hstate => ?_, fun v hv => ?_, ?_, ?_⟩
  · rw [State.stream_evaluatePoolFrom, State.stream_evaluateFlowFrom, hgrown, Stream.flowAt_eq]
    by_cases hn : cellsFor length = 0
    · simp [hn]
    · simp [hn, hstate]
  · rw [State.stream_evaluatePoolFrom, State.stream_evaluateFlowFrom_ne _ _ hv, State.stream_updateStream_ne _ _ hv]
    rfl
  · have hfollows := poolFollows_evaluatePoolFrom (s := s) (m := grown.evaluateFlowFrom t (s.stream t).occupancy)
      (by simp [grown, taken]) (by simp [grown, taken])
    simpa [grown, taken] using hfollows
  · apply State.ext <;> simp [grown, taken]

end

/-- Settles O11. -/
theorem feedHeaderIsSkippedOrStaged : Obligations.FeedHeaderIsSkippedOrStaged := by
  intro s symbols bytes damaged hready hbytes
  refine ⟨fun hshort => ?_, fun hlong hbad => ?_, fun hlong hgood hkind => ?_⟩
  · rw [exec_feedHeader_ready hready hbytes, State.takeHeader_short hshort]; rfl
  · rw [exec_feedHeader_ready hready hbytes, State.takeHeader_malformed hlong hbad]; rfl
  · rw [exec_feedHeader_ready hready hbytes, State.takeHeader_staged hlong hgood hkind]; rfl

/-- Settles O12: the admission tests name the refusal, and each refusal is a write to the stream's record. -/
theorem admissionRefusesInOrder : Obligations.AdmissionRefusesInOrder := by
  intro s symbols bytes damaged t hready hbytes hlong hgood hkind htag
  have hexec := exec_feedHeader_ready hready hbytes
  rw [State.takeHeader_data hlong hgood hkind htag] at hexec
  have hbody : (bytes.drop 6).length = bytes.length - 6 := List.length_drop
  refine ⟨fun hstate => ?_, fun hstate hlimit hflag => ?_, fun hstate hlimit hflag => ?_, fun hstate hlimit hpool => ?_⟩
  · rw [hexec, State.takeData_refusedState (State.admission_refusedState (s := s.drawFree _) _ hstate), hbody]; rfl
  · rw [hexec, State.takeData_refusedLimit (State.admission_refusedLimit (s := s.drawFree _) hstate hlimit),
      State.refuseLimit_again (s := s.drawFree _) hflag, hbody]
    rfl
  · rw [hexec, State.takeData_refusedLimit (State.admission_refusedLimit (s := s.drawFree _) hstate hlimit),
      State.refuseLimit_first (s := s.drawFree _) hflag, hbody]
    rfl
  · rw [hexec, State.takeData_refusedPool (State.admission_refusedPool (s := s.drawFree _) hstate hlimit hpool), hbody]; rfl

/-- Settles O13: `Reserved` says what the reservation does, and storing what has come touches the cells and the receiver only. -/
theorem admittedHeaderReserves : Obligations.AdmittedHeaderReserves := by
  intro s symbols bytes damaged t number records hready hbytes hlong hgood hkind htag x length n chain hstate hlimit hclass hcells
    hrecords
  obtain ⟨u, hreserve, hu⟩ := State.reserve_eq (s := s.drawFree (undecodedIn symbols)) hrecords t length
  have hadmitted : (s.drawFree (undecodedIn symbols)).admission t (cellsFor length) = .admitted :=
    State.admission_admitted (s := s.drawFree _) hstate hlimit hclass hcells
      (by show s.pool.freeRecords ≠ []; rw [hrecords]; exact List.cons_ne_nil _ _)
  have hexec := exec_feedHeader_ready hready hbytes
  rw [State.takeHeader_data hlong hgood hkind htag, State.takeData_admitted hadmitted, State.beginStoring, hreserve] at hexec
  have hframe := hu.frame
  refine ⟨_, hexec, rfl, ?_, hu.freeCells, hu.freeRecords, hu.stream (fun hclosed => StreamState.noConfusion (hstate.symm.trans hclosed)), hu.others,
    hu.pool, ?_⟩
  · dsimp only [State.setFeedRx, State.storeBytes]
    rw [hframe]
    simp [framePayload]
    rfl
  · dsimp only [State.setFeedRx, State.storeBytes]
    rw [hframe]
    rfl

/-! ### The end of a DATA frame (R50, R51) -/

section
variable {s : State} {symbols : List LaneSymbol} {record : FrameRecord} {received payload : List Byte} {running : CheckWord}
  {damaged : Bool}

/-- R30: what a reservation's return leaves, after `drawn` free values and some bytes stored in its chain. -/
structure ReservationReturned (s u : State) (record : FrameRecord) (drawn : Nat) : Prop where
  freeCells : u.pool.freeCells = s.pool.freeCells ++ record.chain
  freeRecords : u.pool.freeRecords = s.pool.freeRecords ++ [record.number]
  stream : u.stream record.stream = { s.stream record.stream with
    occupancy := (s.stream record.stream).occupancy - record.chain.length
    flow := if (s.stream record.stream).state = .closed then (s.stream record.stream).flow
            else (s.stream record.stream).flowAt ((s.stream record.stream).occupancy - record.chain.length) }
  others : OtherStreams s u record.stream
  pool : PoolFollows s u s.events
  frame : u = { s with cells := u.cells, pool := u.pool, streams := u.streams, events := u.events, freeCount := s.freeCount + drawn }

theorem reservationReturned (s : State) (record : FrameRecord) (drawn : Nat) (payload : List Byte) :
    ReservationReturned s (((s.drawFree drawn).storeBytes record payload).returnReservation record) record drawn where
  freeCells := State.returnReservation_freeCells _ _
  freeRecords := State.returnReservation_freeRecords _ _
  stream := State.stream_returnReservation _ _
  others _ hv := State.stream_returnReservation_ne _ hv
  pool := State.poolFollows_returnReservation (s := (s.drawFree drawn).storeBytes record payload) record
  frame := by
    conv_lhs => rw [State.returnReservation_frame]
    rw [State.returnReservation_cells]
    rfl

theorem ReservationReturned.port {s u : State} {drawn : Nat} (h : ReservationReturned s u record drawn) : u.port = s.port := by
  rw [h.frame]

/-- R50, R51: the three verdicts, and the state of the stream. -/
theorem State.endData_countMismatch : s.endData record .countMismatch = (s.returnReservation record).countFeedMalformed := rfl

theorem State.endData_checkMismatch : s.endData record .checkMismatch = (s.returnReservation record).countFeedCheckError := rfl

theorem State.endData_good_of_not_opened (h : (s.stream record.stream).state ≠ .opened) :
    s.endData record .good =
      (s.returnReservation record).countStream record.stream fun c => { c with refusedState := c.refusedState + 1#32 } :=
  if_neg h

end

/-- Settles O15: each refusal is the reservation's return and one count. -/
theorem refusedDataFrameReturnsReservation : Obligations.RefusedDataFrameReturnsReservation := by
  intro s symbols record received running damaged hready hrx x values badCount badCheck occupancy hrefused
  have hexec : exec (.dataFrameEnd symbols) s = _ := State.execDataFrameEnd_ready (symbols := symbols) hready hrx
  rw [frameVerdict_eq] at hexec
  have hreturned := reservationReturned s record (undecodedIn symbols) (framePayload record.length values)
  have hframe := hreturned.frame
  have hdamage : ((damaged || undecodedIn symbols != 0) = true ∨
      values.drop record.length ≠ checkWordBytes (checkOutput (checkBytes running (values.take record.length)))) ↔ badCheck := by
    simp [badCheck, or_assoc]
  by_cases hcount : badCount
  · rw [if_pos hcount, State.endData_countMismatch] at hexec
    generalize ((s.drawFree (undecodedIn symbols)).storeBytes record (framePayload record.length values)).returnReservation record
      = w at hexec hreturned hframe
    refine ⟨_, hexec, rfl, hreturned.freeCells, hreturned.freeRecords, ?_, ?_, hreturned.others, hreturned.pool, ?_⟩
    · refine hreturned.stream.trans ?_
      simp [hcount, x, occupancy]
    · simp [hcount, State.setFeedRx, State.countFeedMalformed, hreturned.port]
    · dsimp only [State.setFeedRx, State.countFeedMalformed]
      rw [hframe]
  · rw [if_neg hcount] at hexec
    by_cases hcheck : badCheck
    · rw [if_pos (hdamage.2 hcheck), State.endData_checkMismatch] at hexec
      generalize ((s.drawFree (undecodedIn symbols)).storeBytes record (framePayload record.length values)).returnReservation record
        = w at hexec hreturned hframe
      refine ⟨_, hexec, rfl, hreturned.freeCells, hreturned.freeRecords, ?_, ?_, hreturned.others, hreturned.pool, ?_⟩
      · refine hreturned.stream.trans ?_
        simp [hcount, hcheck, x, occupancy]
      · simp [hcount, hcheck, State.setFeedRx, State.countFeedCheckError, hreturned.port]
      · dsimp only [State.setFeedRx, State.countFeedCheckError]
        rw [hframe]
    · have hstate : x.state ≠ .opened := (hrefused.resolve_left hcount).resolve_left hcheck
      rw [if_neg (fun h => hcheck (hdamage.1 h)), State.endData_good_of_not_opened
        (s := (s.drawFree _).storeBytes record (framePayload record.length values)) hstate] at hexec
      generalize ((s.drawFree (undecodedIn symbols)).storeBytes record (framePayload record.length values)).returnReservation record
        = w at hexec hreturned hframe
      refine ⟨_, hexec, rfl, ?_, ?_, ?_, ?_, fun v hv => ?_, ?_, ?_⟩
      · exact hreturned.freeCells
      · exact hreturned.freeRecords
      · rw [State.stream_setFeedRx, State.stream_countStream_self, hreturned.stream]
        simp [hcount, hcheck, x, occupancy]
      · simp [hcount, hcheck, hreturned.port]
      · rw [State.stream_setFeedRx, State.stream_countStream_ne _ _ hv, hreturned.others v hv]
      · exact hreturned.pool
      · dsimp only [State.setFeedRx, State.countStream, State.updateStream, State.setStream]
        rw [hframe]

/-! ### What is stored (R25, R50) -/

section
variable {symbols : List LaneSymbol} {received values : List Byte}

/-- R173: the bytes of a frame that could all be decoded. -/
theorem decoded_split (h : received.map LaneByte.data ++ laneBytes symbols = values.map LaneByte.data) (n : Nat) :
    received ++ laneValues n (laneBytes symbols) = values := by
  obtain ⟨front, back, rfl, hfront, hback⟩ := List.map_eq_append_iff.1 h.symm
  have hreceived : front = received := (List.map_injective_iff.2 (fun _ _ e => LaneByte.data.inj e)) hfront
  rw [hreceived, ← hback, laneValues_data]

theorem framePayload_append (payload check : List Byte) (h : check.length = 4) :
    framePayload payload.length (payload ++ check) = payload := by
  simp [framePayload, h]

end

/-- Settles O16: the bytes before the last four are the payload, and they fill the chain exactly. -/
theorem storedPayloadReadsBack : Obligations.StoredPayloadReadsBack := by
  intro s symbols record received running damaged payload check hready hrx hwf hchain hcells hlength hcheck hbytes
  have hvalues : received ++ s.arrived symbols = payload ++ check := decoded_split hbytes s.freeCount
  have hexec : exec (.dataFrameEnd symbols) s = _ := State.execDataFrameEnd_ready (symbols := symbols) hready hrx
  rw [hvalues, ← hlength, framePayload_append payload check hcheck] at hexec
  refine ⟨_, hexec, ?_, ?_⟩
  · show (State.endData _ _ _).cells.wf = true
    rw [State.endData_cells]
    exact Memory.writeChain_wf _ _ hwf
  · show (State.endData _ _ _).cells.readChain _ _ = _
    rw [State.endData_cells, ← hlength]
    exact Memory.readChain_writeChain hwf _ _ hchain (by rw [hcells, hlength])

/-! ### Frames cut short, ignored or skipped (R40, R42, R52) -/

section
variable {s : State} {symbols : List LaneSymbol} {marker : Marker}

/-- R52: in HEADER, for which AWAIT-START may stand (log 14), fewer than six bytes have come. -/
theorem exec_feedFrameCutShort_header {bytes : List Byte} {damaged : Bool} (h : s.Ready)
    (hbytes : s.sinceStart symbols = some (bytes, damaged)) (hshort : bytes.length < 6) :
    exec (.feedFrameCutShort marker symbols) s =
      .next ((s.drawFree (undecodedIn symbols)).countFeedMalformed.setFeedRx (FeedReceiver.afterCut marker)) := by
  show execFeedFrameCutShort _ symbols s = _
  unfold execFeedFrameCutShort
  rw [State.onInput_ready _ h]
  unfold State.sinceStart at hbytes
  split at hbytes
  case h_1 hrx => cases hbytes; simp only [hrx, State.cutHeader, hshort, if_true]
  case h_2 hrx => cases hbytes; simp only [hrx, State.cutHeader, hshort, if_true]
  all_goals cases hbytes

theorem exec_feedFrameCutShort_storing {record : FrameRecord} {received : List Byte} {running : CheckWord} {damaged : Bool}
    (h : s.Ready) (hrx : s.feedRx = .storing record received running damaged) :
    exec (.feedFrameCutShort .start symbols) s =
      .next (((((s.drawFree (undecodedIn symbols)).storeBytes record
        ((received ++ s.arrived symbols).take record.length)).returnReservation record).countFeedMalformed).setFeedRx
          (.header [] false)) := by
  show execFeedFrameCutShort _ symbols s = _
  unfold execFeedFrameCutShort
  rw [State.onInput_ready _ h]
  simp only [hrx]

end

/-- Settles O18: a case for each state of the receiver. -/
theorem feedFramesCutShortIgnoredOrSkipped : Obligations.FeedFramesCutShortIgnoredOrSkipped := by
  intro s symbols hready
  refine ⟨fun bytes damaged hbytes hshort => ⟨?_, ?_⟩, fun header received running damaged hrx => ?_, fun n hrx => ?_,
    fun hrx => ?_, fun n hrx => ?_, fun record received running damaged hrx => ?_⟩
  · exact exec_feedFrameCutShort_header hready hbytes hshort
  · exact exec_feedFrameCutShort_header hready hbytes hshort
  · show execFeedFrameCutShort _ symbols s = _
    unfold execFeedFrameCutShort
    rw [State.onInput_ready _ hready]
    simp only [hrx]
    rfl
  · show execFeedFrameCutShort _ symbols s = _
    unfold execFeedFrameCutShort
    rw [State.onInput_ready _ hready]
    simp only [hrx]
    rfl
  · show execFeedFrameIgnored symbols s = _
    unfold execFeedFrameIgnored
    rw [State.onInput_ready _ hready]
    simp only [hrx]
  · show execSkippingFrameEnd symbols s = _
    unfold execSkippingFrameEnd
    rw [State.onInput_ready _ hready]
    simp only [hrx]
    rfl
  · have hexec := exec_feedFrameCutShort_storing (symbols := symbols) hready hrx
    have hreturned := reservationReturned s record (undecodedIn symbols) ((received ++ s.arrived symbols).take record.length)
    generalize ((s.drawFree (undecodedIn symbols)).storeBytes record ((received ++ s.arrived symbols).take
      record.length)).returnReservation record = w at hexec hreturned
    have hframe := hreturned.frame
    refine ⟨_, hexec, hreturned.freeCells, hreturned.freeRecords, hreturned.stream, hreturned.others, hreturned.pool, ?_⟩
    dsimp only [State.setFeedRx, State.countFeedMalformed]
    rw [hframe]

/-! ### The end of a staged frame (R57) -/

section
variable {s : State} {symbols : List LaneSymbol} {header : Header} {received : List Byte} {running : CheckWord} {damaged : Bool}

/-- R57: a staged frame whose byte count differs from its LENGTH. -/
theorem State.endStaged_countMismatch (h : s.Ready) (hrx : s.feedRx = .staging header received running damaged) (mnemonic : String)
    (handOn : List Byte → State → State)
    (hverdict : frameVerdict running (damaged || undecodedIn symbols != 0) header.length.toNat (received ++ s.arrived symbols) =
      .countMismatch) :
    s.endStaged header.kind mnemonic symbols handOn =
      .next ((s.drawFree (undecodedIn symbols)).setFeedRx .awaitStart).countFeedMalformed := by
  unfold State.endStaged
  rw [State.onInput_ready _ h]
  simp only [hrx, if_true, hverdict]

/-- R57: a staged frame whose check word does not match. -/
theorem State.endStaged_checkMismatch (h : s.Ready) (hrx : s.feedRx = .staging header received running damaged) (mnemonic : String)
    (handOn : List Byte → State → State)
    (hverdict : frameVerdict running (damaged || undecodedIn symbols != 0) header.length.toNat (received ++ s.arrived symbols) =
      .checkMismatch) :
    s.endStaged header.kind mnemonic symbols handOn =
      .next ((s.drawFree (undecodedIn symbols)).setFeedRx .awaitStart).countFeedCheckError := by
  unfold State.endStaged
  rw [State.onInput_ready _ h]
  simp only [hrx, if_true, hverdict]

/-- Each of the three rows that end a staged frame is the end of a frame of its kind. -/
theorem exec_staged_eq {c : Instr} (hc : (header.kind = 0x31#8 ∧ c = .requestArrival symbols) ∨
    (header.kind = 0x21#8 ∧ c = .producerNote symbols) ∨ (header.kind = 0x22#8 ∧ c = .producerNoteTaken symbols)) :
    ∃ mnemonic handOn, exec c s = s.endStaged header.kind mnemonic symbols handOn := by
  rcases hc with ⟨hkind, rfl⟩ | ⟨hkind, rfl⟩ | ⟨hkind, rfl⟩
  · rw [hkind]; exact ⟨_, _, Eq.refl (execRequestArrival symbols s)⟩
  · rw [hkind]; exact ⟨_, _, Eq.refl (execProducerNote symbols s)⟩
  · rw [hkind]; exact ⟨_, _, Eq.refl (execProducerNoteTaken symbols s)⟩

end

/-- Settles O19. -/
theorem damagedStagedFrameIsDropped : Obligations.DamagedStagedFrameIsDropped := by
  intro s symbols header received running damaged c hready hrx hc
  obtain ⟨mnemonic, handOn, hexec⟩ := exec_staged_eq (s := s) hc
  refine ⟨fun hcount => ?_, fun hcount hcheck => ?_⟩
  · rw [hexec, State.endStaged_countMismatch hready hrx]
    · rfl
    · rw [frameVerdict_eq, if_pos hcount]
  · have hdamage : (damaged || undecodedIn symbols != 0) = true ∨ (received ++ s.arrived symbols).drop header.length.toNat ≠
        checkWordBytes (checkOutput (checkBytes running ((received ++ s.arrived symbols).take header.length.toNat))) := by
      simpa [or_assoc] using hcheck
    rw [hexec, State.endStaged_checkMismatch hready hrx]
    · rfl
    · rw [frameVerdict_eq, if_neg (not_not.2 hcount), if_pos hdamage]

/-! ### Requests reach the engine (R146, R147) -/

section
variable {s : State} {r : Request}

theorem State.requestArrives_of_free (h : s.slots.length < 4) :
    s.requestArrives r = ({ s with slots := s.slots ++ [Slot.queued r] } : State).engineTake := if_pos h

theorem State.requestArrives_of_full (h : 4 ≤ s.slots.length) :
    s.requestArrives r = s.countRequestLost.raise { kind := .requestLost, detail := r.number ++ r.command } :=
  if_neg (Nat.not_lt.2 h)

theorem State.engineTake_of_busy (h : s.resetPending = true ∨ s.slots.any Slot.isExecuting = true) : s.engineTake = s :=
  if_pos (by simpa using h)

theorem State.engineTake_of_idle (hreset : s.resetPending = false) (hidle : s.slots.any Slot.isExecuting = false) :
    s.engineTake = { s with slots := takeOldestQueued s.slots } := if_neg (by simp [hreset, hidle])

/-- Slots that are all ANSWERING are those of some responses. -/
theorem exists_answering {slots : List Slot} (h : ∀ x ∈ slots, ∃ a, x = .answering a) :
    ∃ answered : List Response, slots = answered.map Slot.answering := by
  induction slots with
  | nil => exact ⟨[], rfl⟩
  | cons x rest ih =>
    obtain ⟨a, rfl⟩ := h x List.mem_cons_self
    obtain ⟨answered, rfl⟩ := ih fun y hy => h y (List.mem_cons_of_mem _ hy)
    exact ⟨a :: answered, rfl⟩

/-- R182: the detail of REQUEST-LOST as a number. -/
theorem requestLost_detail (number command : Byte) :
    (number ++ command : BitVec 16) = BitVec.ofNat 16 (256 * number.toNat + command.toNat) := by
  apply BitVec.eq_of_toNat_eq
  have hnumber := number.isLt
  have hcommand := command.isLt
  rw [BitVec.toNat_append, BitVec.toNat_ofNat, ← Nat.shiftLeft_add_eq_or_of_lt hcommand, Nat.shiftLeft_eq]
  omega

end

/-- Settles O20. -/
theorem requestTakesSlotOrIsLost : Obligations.RequestTakesSlotOrIsLost := by
  intro s symbols r hframe
  have hexec : exec (.requestArrival symbols) s = .next ((s.setFeedRx .awaitStart).requestArrives r) := by
    show execRequestArrival symbols s = _
    exact State.endStaged_good hframe _ _
  refine ⟨fun hroom hbusy => ?_, fun hroom hreset hanswering => ?_, fun hfull => ?_⟩
  · rw [hexec, State.requestArrives_of_free (s := s.setFeedRx .awaitStart) hroom, State.engineTake_of_busy]
    · rfl
    · obtain h | h := hbusy
      · exact .inl h
      · exact .inr (by simp [State.setFeedRx, h, List.any_append])
  · obtain ⟨answered, hslots⟩ := exists_answering hanswering
    rw [hexec, State.requestArrives_of_free (s := s.setFeedRx .awaitStart) hroom, State.engineTake_of_idle (by exact hreset)]
    · simp [State.setFeedRx, hslots, takeOldestQueued_append, takeOldestQueued]
    · simp [State.setFeedRx, hslots, Slot.isExecuting]
  · rw [hexec, State.requestArrives_of_full (s := s.setFeedRx .awaitStart) hfull, State.raise_eq, requestLost_detail]
    rfl

end Sys2Proof.Machine
end

section
/-!
Notes and the return receiver (O21 to O24, O30, O31).
-/

namespace Sys2Proof.Machine

/-! ### Notes (R136 to R140) -/

section
variable {s : State} {n : Note} {number : Byte}

/-- R139: the two ways of counting one more event agree. -/
theorem some_bumpIndication (r : Option Indication) (number : Byte) : some (bumpIndication r number) = afterEvent r number := by
  cases r with
  | none => rfl
  | some i =>
    have hcount : min (i.count + 1) Config.indicationMax = if i.count < 255 then i.count + 1 else 255 := by
      unfold Config.indicationMax
      split <;> omega
    simp only [bumpIndication, afterEvent, hcount]

theorem NoteSlot.matchesTaken_iff (slot : NoteSlot) (number : Byte) :
    slot.matchesTaken number = true ↔ ∃ n : Note, slot = .awaitingTaken n ∧ n.number = number := by
  cases slot <;> simp [NoteSlot.matchesTaken]

/-- R136: a note from the producer, stored or refused. -/
theorem State.forwardNoteArrives_eq (s : State) (n : Note) :
    s.forwardNoteArrives n = { s with
      notes := if s.notes.forward = .empty then { s.notes with forward := .waiting n }
               else { s.notes with refusedToProducer := afterEvent s.notes.refusedToProducer n.number } } := by
  unfold State.forwardNoteArrives
  split
  · rfl
  · rw [← some_bumpIndication]; rfl

/-- R137: a note from the consumer, stored. -/
theorem State.backNoteArrives_of_empty (h : s.notes.back = .empty) :
    s.backNoteArrives n = { s with notes := { s.notes with back := .waiting n } } := if_pos h

/-- R137, R140: a note from the consumer, refused. -/
theorem State.backNoteArrives_of_full (h : s.notes.back ≠ .empty) :
    s.backNoteArrives n = { s with
      notes := { s.notes with refusedToConsumer := afterEvent s.notes.refusedToConsumer n.number }
      drainTx := s.drainTx.map fun tx => tx.tallyRefused n.number } := by
  rw [← some_bumpIndication]
  exact if_neg h

theorem State.forwardNoteTaken_of_matched (h : s.notes.forward.matchesTaken number = true) :
    s.forwardNoteTaken number = { s with
      notes := { s.notes with forward := .empty, doneToProducer := afterEvent s.notes.doneToProducer number } } := by
  rw [← some_bumpIndication]
  exact if_pos h

theorem State.forwardNoteTaken_of_stray (h : ¬ s.notes.forward.matchesTaken number = true) :
    s.forwardNoteTaken number = s.countNoteStray := if_neg h

theorem State.backNoteTaken_of_matched (h : s.notes.back.matchesTaken number = true) :
    s.backNoteTaken number = { s with
      notes := { s.notes with back := .empty, doneToConsumer := afterEvent s.notes.doneToConsumer number }
      drainTx := s.drainTx.map fun tx => tx.tallyDone number } := by
  rw [← some_bumpIndication]
  exact if_pos h

theorem State.backNoteTaken_of_stray (h : ¬ s.notes.back.matchesTaken number = true) :
    s.backNoteTaken number = s.countNoteStray := if_neg h

/-- R140: the tally of a NOTE-REFUSED in transmission grows, and no other transmission changes. -/
theorem map_tallyRefused (tx : Option DrainTransmission) (number : Byte) :
    (∀ sent tally, tx = some (.noteRefused sent tally) →
      tx.map (fun x => x.tallyRefused number) = some (.noteRefused sent (afterEvent tally number))) ∧
    ((∀ sent tally, tx ≠ some (.noteRefused sent tally)) → tx.map (fun x => x.tallyRefused number) = tx) := by
  refine ⟨?_, fun h => ?_⟩
  · rintro sent tally rfl
    rw [← some_bumpIndication]
    rfl
  · match tx with
    | none => rfl
    | some (.data _ _ _ _) => rfl
    | some (.note _) => rfl
    | some (.noteDone _ _) => rfl
    | some (.noteRefused sent tally) => exact absurd rfl (h sent tally)

/-- R140: the tally of a NOTE-DONE in transmission grows, and no other transmission changes. -/
theorem map_tallyDone (tx : Option DrainTransmission) (number : Byte) :
    (∀ sent tally, tx = some (.noteDone sent tally) →
      tx.map (fun x => x.tallyDone number) = some (.noteDone sent (afterEvent tally number))) ∧
    ((∀ sent tally, tx ≠ some (.noteDone sent tally)) → tx.map (fun x => x.tallyDone number) = tx) := by
  refine ⟨?_, fun h => ?_⟩
  · rintro sent tally rfl
    rw [← some_bumpIndication]
    rfl
  · match tx with
    | none => rfl
    | some (.data _ _ _ _) => rfl
    | some (.note _) => rfl
    | some (.noteDone sent tally) => exact absurd rfl (h sent tally)
    | some (.noteRefused _ _) => rfl

end

/-- Settles O21. -/
theorem noteIsStoredOrRefused : Obligations.NoteIsStoredOrRefused := by
  intro s symbols n
  refine ⟨fun hframe => ?_, fun part serial a htakes hlength => ?_⟩
  · have hexec : exec (.producerNote symbols) s = .next ((s.setFeedRx .awaitStart).forwardNoteArrives n) := by
      show execProducerNote symbols s = _
      exact State.endStaged_good hframe _ _
    rw [hexec, State.forwardNoteArrives_eq]
    rfl
  · have hexec : exec (.consumerNote part ⟨serial, n.number, n.payload⟩) s = .next (a.backNoteArrives n) :=
      execConsumerNote_taken htakes hlength
    rw [hexec]
    refine ⟨fun hempty => ?_, fun hfull => ?_⟩
    · rw [State.backNoteArrives_of_empty hempty]
    · rw [State.backNoteArrives_of_full hfull]
      obtain ⟨hgrows, hstays⟩ := map_tallyRefused a.drainTx n.number
      exact ⟨_, rfl, rfl, hgrows, hstays⟩

/-- Settles O22. -/
theorem noteTakenIsMatchedOrStray : Obligations.NoteTakenIsMatchedOrStray := by
  intro s symbols number
  refine ⟨fun part serial a htakes => ?_, fun hframe n hslot hnumber => ?_, fun hframe hslot => ?_⟩
  · have hexec : exec (.consumerNoteTaken (part, ⟨serial, number⟩)) s = .next (a.forwardNoteTaken number) :=
      execConsumerNoteTaken_taken htakes
    rw [hexec]
    refine ⟨fun n hslot hnumber => ?_, fun hslot => ?_⟩
    · rw [State.forwardNoteTaken_of_matched ((NoteSlot.matchesTaken_iff _ _).2 ⟨n, hslot, hnumber⟩)]
    · rw [State.forwardNoteTaken_of_stray fun h => ?_]
      · rfl
      · obtain ⟨n, hn, hnumber⟩ := (NoteSlot.matchesTaken_iff _ _).1 h
        exact hslot n hn hnumber
  · have hexec : exec (.producerNoteTaken symbols) s = .next ((s.setFeedRx .awaitStart).backNoteTaken number) := by
      show execProducerNoteTaken symbols s = _
      exact State.endStaged_good hframe _ _
    rw [hexec, State.backNoteTaken_of_matched (s := s.setFeedRx .awaitStart) ((NoteSlot.matchesTaken_iff _ _).2 ⟨n, hslot, hnumber⟩)]
    obtain ⟨hgrows, hstays⟩ := map_tallyDone s.drainTx number
    exact ⟨_, rfl, rfl, hgrows, hstays⟩
  · have hexec : exec (.producerNoteTaken symbols) s = .next ((s.setFeedRx .awaitStart).backNoteTaken number) := by
      show execProducerNoteTaken symbols s = _
      exact State.endStaged_good hframe _ _
    rw [hexec, State.backNoteTaken_of_stray (s := s.setFeedRx .awaitStart) fun h => ?_]
    · rfl
    · obtain ⟨n, hn, hnumber⟩ := (NoteSlot.matchesTaken_iff _ _).1 h
      exact hslot n hn hnumber

/-! ### HOLD and RESUME (R91, R118) -/

/-- Settles O30. -/
theorem holdAndResume : Obligations.HoldAndResume := by
  intro s a part d serial takes held resumed
  have hheld : ∀ x : Stream, x.hold = held x := by
    intro x
    simp only [Stream.hold, held]
    cases x.timer <;> rfl
  have hresumed : ∀ x : Stream, x.resume = resumed x := by
    intro x
    simp only [Stream.resume, resumed]
    cases x.timer <;> rfl
  refine ⟨fun t hroutes => ⟨fun htakes => ?_, fun htakes => ?_⟩, fun hall => ⟨fun htakes => ?_, fun htakes => ?_⟩⟩
  · rw [← hheld]
    refine (execHold_taken htakes).trans ?_
    rw [if_neg hroutes.ne_broadcast, hroutes.streamOf]
    rfl
  · rw [← hresumed]
    refine (execResume_taken htakes).trans ?_
    rw [if_neg hroutes.ne_broadcast, hroutes.streamOf]
    rfl
  · refine ⟨_, (execHold_taken htakes).trans (by rw [if_pos hall]), rfl, fun t => ?_⟩
    rw [State.stream_mapStreams, hheld]
  · refine ⟨_, (execResume_taken htakes).trans (by rw [if_pos hall]), rfl, fun t => ?_⟩
    rw [State.stream_mapStreams, hresumed]

/-! ### The return receiver (R106, R121) -/

section
variable {s : State} {symbols : List LaneSymbol} {bytes frame : List Byte} {damaged opens : Bool}

theorem State.portAtStart_of_not_receiving (h : ∀ received damaged, s.drainRx ≠ .receiving received damaged) :
    s.portAtStart = s.port := by
  unfold State.portAtStart
  split
  · next hrx => exact absurd hrx (h _ _)
  · rfl

theorem State.portAtStart_of_receiving (h : s.drainRx = .receiving bytes damaged) :
    s.portAtStart = { s.port with drainMalformed := s.port.drainMalformed + 1#32 } := by
  unfold State.portAtStart
  rw [h]

theorem State.receiverAtStart_of_up (h : s.carrier = .up) : s.receiverAtStart = .receiving [] false := if_pos h

/-- R121: with the carrier UP, the frame in reception is held, or its malformed header is counted as its sixth byte comes. -/
theorem State.receive_soFar (hup : s.carrier = .up) (h : s.returnSoFar opens symbols = some (bytes, damaged)) :
    s.receive opens symbols =
      if 6 ≤ bytes.length ∧ drainHeaderValid (headerOf bytes) = false then
        { s with
          drainRx := .skipping, freeCount := s.freeCount + undecodedIn symbols
          port := { (if opens then s.portAtStart else s.port) with
            drainMalformed := (if opens then s.portAtStart else s.port).drainMalformed + 1#32 } }
      else
        { s with
          drainRx := .receiving bytes damaged, freeCount := s.freeCount + undecodedIn symbols
          port := if opens then s.portAtStart else s.port } := by
  unfold State.receive
  cases opens with
  | true =>
    simp only [State.returnSoFar, if_true, Option.some.injEq, Prod.mk.injEq] at h
    obtain ⟨rfl, rfl⟩ := h
    have hstarts : s.returnStarts = { s with drainRx := .receiving [] false, port := s.portAtStart } := by
      rw [State.returnStarts_eq, State.receiverAtStart_of_up hup]
    rw [if_pos rfl, hstarts, State.takeReturn_receiving rfl]
    simp only [List.nil_append, Bool.false_or]
    rfl
  | false =>
    simp only [State.returnSoFar, Bool.false_eq_true, if_false] at h
    split at h
    · next received held hrx =>
      cases h
      rw [if_neg (by simp), State.takeReturn_receiving hrx]
      rfl
    · cases h

/-- R121: a start marker after what was received or skipped. -/
theorem State.returnStarts_of_up (hup : s.carrier = .up) :
    s.returnStarts = { s with drainRx := .receiving [] false, port := s.portAtStart } := by
  rw [State.returnStarts_eq, State.receiverAtStart_of_up hup]

/-! ### The rows of the drain link -/

theorem exec_drainFrameDropped_goesOn {extent : Extent} (h : s.Ready) (hends : extent.ends = none) :
    exec (.drainFrameDropped extent symbols) s = .next (s.receive extent.opens symbols) := by
  show execDrainFrameDropped extent symbols s = _
  unfold execDrainFrameDropped
  rw [State.onInput_ready _ h]
  simp only [hends]

theorem exec_drainFrameDropped_cut {extent : Extent} (h : s.Ready) (hends : extent.ends = some .start) :
    exec (.drainFrameDropped extent symbols) s = .next (s.receive extent.opens symbols).returnStarts := by
  show execDrainFrameDropped extent symbols s = _
  unfold execDrainFrameDropped
  rw [State.onInput_ready _ h]
  simp only [hends]

theorem exec_drainFrameDropped_ends {extent : Extent} (h : s.Ready) (hends : extent.ends = some .finish) :
    exec (.drainFrameDropped extent symbols) s =
      (s.receive extent.opens symbols).endReturn fun _ _ => .refused (.notPossible "DRAIN_FRAME_DROPPED") := by
  show execDrainFrameDropped extent symbols s = _
  unfold execDrainFrameDropped
  rw [State.onInput_ready _ h]
  simp only [hends]

theorem exec_returnFrameDiscarded_goesOn {portion : Portion} (h : s.Ready) (hends : portion.extent.ends = none) :
    exec (.returnFrameDiscarded portion) s = .next (s.receive portion.extent.opens portion.symbols) := by
  show execReturnFrameDiscarded portion s = _
  unfold execReturnFrameDiscarded
  rw [State.onInput_ready _ h]
  simp only [hends]

/-- R106: a frame that ends in reception, or whose malformed header was counted, is not discarded. -/
theorem exec_returnFrameDiscarded_notPossible {portion : Portion} (h : s.Ready) (hends : portion.extent.ends ≠ none)
    (hrx : (s.receive portion.extent.opens portion.symbols).drainRx.Taken) :
    exec (.returnFrameDiscarded portion) s = .refused (.notPossible "RETURN_FRAME_DISCARDED") := by
  show execReturnFrameDiscarded portion s = _
  unfold execReturnFrameDiscarded
  rw [State.onInput_ready _ h]
  obtain ⟨marker, hmarker⟩ := Option.ne_none_iff_exists'.1 hends
  obtain hrx | ⟨received, damaged, hrx⟩ := hrx
  · cases marker <;> simp only [hmarker, hrx]
  · cases marker <;> simp only [hmarker, hrx]

end

/-- Settles O31: `State.receive_soFar` says what the portion leaves in the receiver, and `dropCause_eq` what its end marker makes
of it. -/
theorem drainFrameDropped : Obligations.DrainFrameDropped := by
  intro s extent symbols hready hup run discard noDiscard
  refine ⟨fun hends => ?_, fun hrx hopens => ?_, fun bytes damaged hsoFar => ?_⟩
  · exact (exec_returnFrameDiscarded_goesOn hready hends).trans (exec_drainFrameDropped_goesOn hready hends).symm
  · have hreceive : s.receive extent.opens symbols = s := by
      rw [hopens]
      exact State.takeReturn_of_not_receiving (by simp [hrx]) _
    refine ⟨fun hends => exec_returnFrameDiscarded_notPossible hready hends ?_, ?_⟩
    · rw [hreceive]; exact .inl hrx
    · obtain h | h | h : extent.ends = none ∨ extent.ends = some .finish ∨ extent.ends = some .start := by
        cases extent.ends with
        | none => exact .inl rfl
        | some marker => cases marker <;> simp
      · refine (exec_drainFrameDropped_goesOn hready h).trans ?_
        simp only [h, hreceive, ← hrx]
      · refine (exec_drainFrameDropped_ends hready h).trans ?_
        rw [hreceive, State.endReturn_of_not_receiving (by simp [hrx]), h]
      · refine (exec_drainFrameDropped_cut hready h).trans ?_
        rw [hreceive, State.returnStarts_of_up hup, State.portAtStart_of_not_receiving (by simp [hrx]), h]
  · intro port covered badHeader badCount badCheck drawn malformed
    have hreceive := State.receive_soFar hup hsoFar
    have hbad : badHeader → s.receive extent.opens symbols = malformed .skipping := 
      fun h => hreceive.trans (if_pos ⟨h.1, (drainHeaderValid_eq_false _).2 h.2⟩)
    have hheld : ¬ badHeader → s.receive extent.opens symbols = { drawn with drainRx := .receiving bytes damaged, port := port } :=
      fun h => hreceive.trans (if_neg fun hb => h ⟨hb.1, (drainHeaderValid_eq_false _).1 hb.2⟩)
    refine ⟨fun hends => exec_returnFrameDiscarded_notPossible hready hends ?_, fun hends hgood => ?_, fun hends h => ?_,
      fun hends => ?_, fun hends h => ?_, fun hends hgood hcount hcheck => ?_, fun hends hgood hcount hcheck => ?_⟩
    · show (s.receive extent.opens symbols).drainRx.Taken
      by_cases h : badHeader
      · rw [hbad h]; exact .inl rfl
      · rw [hheld h]; exact .inr ⟨_, _, rfl⟩
    · exact (exec_drainFrameDropped_goesOn hready hends).trans (congrArg Host.Outcome.next (hheld hgood))
    · exact (exec_drainFrameDropped_goesOn hready hends).trans (congrArg Host.Outcome.next (hbad h))
    · refine (exec_drainFrameDropped_cut hready hends).trans (congrArg Host.Outcome.next ?_)
      by_cases h : badHeader
      · rw [hbad h, State.returnStarts_of_up (s := malformed .skipping) hup, State.portAtStart_of_not_receiving (by simp [malformed])]
      · rw [hheld h, State.returnStarts_of_up (by exact hup), State.portAtStart_of_receiving rfl]
    · refine (exec_drainFrameDropped_ends hready hends).trans ?_
      by_cases hb : badHeader
      · rw [hbad hb, State.endReturn_of_not_receiving (by simp [malformed])]
      · have hcause : dropCause? bytes damaged = some .malformed := by
          obtain hshort | hcount := h.resolve_left hb
          · exact if_pos hshort
          · by_cases hshort : bytes.length < 6
            · exact if_pos hshort
            · rw [dropCause_eq _ _ (Nat.le_of_not_lt hshort)]
              exact if_pos hcount
        rw [hheld hb, State.endReturn_receiving rfl, hcause]
    · obtain ⟨hlong, hlength⟩ := not_or.1 hcount
      have hcause : dropCause? bytes damaged = some .checkError := by
        rw [dropCause_eq _ _ (Nat.le_of_not_lt hlong)]
        exact (if_neg hlength).trans (if_pos hcheck)
      refine (exec_drainFrameDropped_ends hready hends).trans ?_
      rw [hheld hgood, State.endReturn_receiving rfl, hcause]
    · obtain ⟨hlong, hlength⟩ := not_or.1 hcount
      have hcause : dropCause? bytes damaged = none := by
        rw [dropCause_eq _ _ (Nat.le_of_not_lt hlong)]
        exact (if_neg hlength).trans (if_neg hcheck)
      refine (exec_drainFrameDropped_ends hready hends).trans ?_
      rw [hheld hgood, State.endReturn_receiving rfl, hcause]

/-! ### The rows of good frames (R121, R122) -/

section
variable {s : State} {c : Instr} {part : FramePart} {frame : List Byte} {extent : Extent}

/-- The row of a good frame gives its bytes to the return receiver. -/
theorem exec_of_returnFrame (h : returnFrame c = some (part, frame)) :
    ∃ mnemonic effect, ∀ s, exec c s = s.onReturn mnemonic part frame effect := by
  cases c with
  | ack p x => cases h; rw [framed_eq_frameBytes]; exact ⟨_, _, fun s => Eq.refl (execAck part x s)⟩
  | replay p x => cases h; rw [framed_eq_frameBytes]; exact ⟨_, _, fun s => Eq.refl (execReplay part x s)⟩
  | hold x => cases h; rw [framed_eq_frameBytes]; exact ⟨_, _, fun s => Eq.refl (execHold x s)⟩
  | resume x => cases h; rw [framed_eq_frameBytes]; exact ⟨_, _, fun s => Eq.refl (execResume x s)⟩
  | consumerNote p x => cases h; rw [framed_eq_frameBytes]; exact ⟨_, _, fun s => Eq.refl (execConsumerNote part x s)⟩
  | consumerNoteTaken x => cases h; rw [framed_eq_frameBytes]; exact ⟨_, _, fun s => Eq.refl (execConsumerNoteTaken x s)⟩
  | _ => cases h

/-- A good frame has a complete header and a check word. -/
theorem returnFrame_length (h : returnFrame c = some (part, frame)) : 10 ≤ frame.length := by
  have hframed : ∀ (kind tag : Byte) (serial : Serial) (payload : List Byte),
      10 ≤ (framed kind tag serial.toNat payload).length := by
    intro kind tag serial payload
    rw [framed_eq_frameBytes, frameBytes_length]
    omega
  cases c with
  | ack | replay | hold | resume | consumerNote | consumerNoteTaken => cases h; exact hframed _ _ _ _
  | _ => cases h

/-- The rows that bring a portion of a drain-link frame. -/
theorem returnExtent_cases (h : returnExtent c = some extent) :
    (∃ part frame, returnFrame c = some (part, frame) ∧ extent = partExtent part) ∨
      (∃ symbols, c = .drainFrameDropped extent symbols) ∨ ∃ symbols, c = .returnFrameDiscarded ⟨extent, symbols⟩ := by
  cases c with
  | ack | replay | hold | resume | consumerNote | consumerNoteTaken => cases h; exact .inl ⟨_, _, rfl, rfl⟩
  | drainFrameDropped e symbols => cases h; exact .inr (.inl ⟨_, rfl⟩)
  | returnFrameDiscarded portion => cases h; exact .inr (.inr ⟨_, rfl⟩)
  | _ => cases h

/-! ### Where no frame is in reception -/

theorem DrainReceiver.not_taken_cases {r : DrainReceiver} (h : ¬ r.Taken) : r = .awaitStart ∨ r = .discarding := by
  cases r with
  | awaitStart => exact .inl rfl
  | receiving received damaged => exact absurd (.inr ⟨_, _, rfl⟩) h
  | skipping => exact absurd (.inl rfl) h
  | discarding => exact .inr rfl

/-- What reception leaves of a frame that is not taken: it is discarded from its start marker on. -/
def State.discards (s : State) (opens : Bool) : State := { s with drainRx := if opens then .discarding else s.drainRx }

theorem State.receive_of_not_taken {opens : Bool} (hrx : ¬ s.drainRx.Taken) (hopens : opens = true → s.carrier ≠ .up)
    (symbols : List LaneSymbol) : s.receive opens symbols = s.discards opens := by
  rw [State.receive_discarded (fun received damaged h => hrx (.inr ⟨received, damaged, h⟩)) opens hopens]
  cases opens <;> rfl

theorem State.not_taken_discards {opens : Bool} (hrx : ¬ s.drainRx.Taken) : ¬ (s.discards opens).drainRx.Taken := by
  cases opens with
  | true => rintro (h | ⟨_, _, h⟩) <;> cases h
  | false => exact hrx

theorem State.endReturn_of_not_taken (hrx : ¬ s.drainRx.Taken) (good : List Byte → State → Result) :
    s.endReturn good = .next { s with drainRx := .awaitStart } :=
  State.endReturn_of_not_receiving (fun received damaged h => hrx (.inr ⟨received, damaged, h⟩)) good

theorem State.returnStarts_of_not_taken (hrx : ¬ s.drainRx.Taken) : s.returnStarts = { s with drainRx := s.receiverAtStart } := by
  rw [State.returnStarts_eq, State.portAtStart_of_not_receiving fun received damaged h => hrx (.inr ⟨received, damaged, h⟩)]

/-- R106: the receiver after a portion of a frame that is not taken. -/
def State.receiverAfter (s : State) (extent : Extent) : DrainReceiver :=
  match extent.ends with
  | none => if extent.opens then .discarding else s.drainRx
  | some .finish => .awaitStart
  | some .start => s.receiverAtStart

/-- R106: a good frame that is not taken is discarded to its end. -/
theorem State.onReturn_of_not_taken (h : s.Ready) (hrx : ¬ s.drainRx.Taken)
    (hopens : (partExtent part).opens = true → s.carrier ≠ .up) (mnemonic : String) (effect : State → State) :
    s.onReturn mnemonic part frame effect = .next { s with drainRx := s.receiverAfter (partExtent part) } := by
  have hpart : opensFrame part = (partExtent part).opens := by cases part <;> rfl
  unfold State.onReturn
  rw [State.onInput_ready _ h, hpart]
  simp only [State.receive_of_not_taken hrx hopens, State.endReturn_of_not_taken (State.not_taken_discards hrx)]
  cases part <;> rfl

theorem exec_drainFrameDropped_of_not_taken (h : s.Ready) (hrx : ¬ s.drainRx.Taken)
    (hopens : extent.opens = true → s.carrier ≠ .up) (symbols : List LaneSymbol) :
    exec (.drainFrameDropped extent symbols) s = .next { s with drainRx := s.receiverAfter extent } := by
  have hreceive := State.receive_of_not_taken hrx hopens symbols
  have htaken := State.not_taken_discards (opens := extent.opens) hrx
  unfold State.receiverAfter
  match hends : extent.ends with
  | none => exact (exec_drainFrameDropped_goesOn h hends).trans (congrArg Host.Outcome.next hreceive)
  | some .finish =>
    refine (exec_drainFrameDropped_ends h hends).trans ?_
    rw [hreceive, State.endReturn_of_not_taken htaken]
    rfl
  | some .start =>
    refine (exec_drainFrameDropped_cut h hends).trans ?_
    rw [hreceive, State.returnStarts_of_not_taken htaken]
    rfl

theorem exec_returnFrameDiscarded_of_not_taken (h : s.Ready) (hrx : ¬ s.drainRx.Taken)
    (hopens : extent.opens = true → s.carrier ≠ .up) (symbols : List LaneSymbol) :
    exec (.returnFrameDiscarded ⟨extent, symbols⟩) s = .next { s with drainRx := s.receiverAfter extent } := by
  have hreceive := State.receive_of_not_taken hrx hopens symbols
  have htaken := State.not_taken_discards (opens := extent.opens) hrx
  unfold State.receiverAfter
  match hends : extent.ends with
  | none => exact (exec_returnFrameDiscarded_goesOn h hends).trans (congrArg Host.Outcome.next hreceive)
  | some .finish =>
    show execReturnFrameDiscarded _ s = _
    unfold execReturnFrameDiscarded
    rw [State.onInput_ready _ h]
    obtain hrest | hrest := DrainReceiver.not_taken_cases htaken
    · simp only [hends, hreceive, hrest]
      rfl
    · simp only [hends, hreceive, hrest]
      rfl
  | some .start =>
    show execReturnFrameDiscarded _ s = _
    unfold execReturnFrameDiscarded
    rw [State.onInput_ready _ h]
    obtain hrest | hrest := DrainReceiver.not_taken_cases htaken
    · simp only [hends, hreceive, hrest, State.returnStarts_of_not_taken htaken]
      rfl
    · simp only [hends, hreceive, hrest, State.returnStarts_of_not_taken htaken]
      rfl

end

/-- Settles O23. -/
theorem returnsWhileCarrierNotUp : Obligations.ReturnsWhileCarrierNotUp := by
  intro s c extent hready hextent hcase
  have hrx : ¬ s.drainRx.Taken := by
    obtain ⟨-, h⟩ | ⟨-, h⟩ := hcase
    · exact h
    · rintro (h' | ⟨_, _, h'⟩) <;> rw [h'] at h <;> simp at h
  have hopens : extent.opens = true → s.carrier ≠ .up := by
    obtain ⟨h, -⟩ | ⟨h, -⟩ := hcase
    · exact fun _ => h
    · exact fun h' => absurd (h.symm.trans h') (by decide)
  obtain ⟨part, frame, hframe, rfl⟩ | ⟨symbols, rfl⟩ | ⟨symbols, rfl⟩ := returnExtent_cases hextent
  · obtain ⟨mnemonic, effect, heffect⟩ := exec_of_returnFrame hframe
    rw [heffect, State.onReturn_of_not_taken hready hrx hopens]
    rfl
  · rw [exec_drainFrameDropped_of_not_taken hready hrx hopens]; rfl
  · rw [exec_returnFrameDiscarded_of_not_taken hready hrx hopens]; rfl

/-! ### Good frames in parts (R121) -/

section
variable {s : State} {frame : List Byte}

theorem State.returnSoFar_opening (s : State) (bytes : List Byte) :
    s.returnSoFar true (dataSymbols bytes) = some (bytes, false) := by
  simp [State.returnSoFar]

/-- R121: the first bytes of a frame are held, unless they complete a malformed header. -/
theorem State.receive_opening_good (hup : s.carrier = .up) (bytes : List Byte)
    (h : bytes.length < 6 ∨ ¬ (headerOf bytes).MalformedOnDrain) :
    s.receive true (dataSymbols bytes) = { s with drainRx := .receiving bytes false, port := s.portAtStart } := by
  rw [State.receive_soFar hup (s.returnSoFar_opening bytes), if_neg]
  · simp
  · rintro ⟨hlong, hbad⟩
    exact h.elim (fun hshort => absurd hlong (Nat.not_le.2 hshort)) fun hgood => hgood ((drainHeaderValid_eq_false _).1 hbad)

theorem State.receive_opening_bad (hup : s.carrier = .up) (bytes : List Byte) (hlong : 6 ≤ bytes.length)
    (hbad : (headerOf bytes).MalformedOnDrain) :
    s.receive true (dataSymbols bytes) = { s with
      drainRx := .skipping, port := { s.portAtStart with drainMalformed := s.portAtStart.drainMalformed + 1#32 } } := by
  rw [State.receive_soFar hup (s.returnSoFar_opening bytes), if_pos ⟨hlong, (drainHeaderValid_eq_false _).2 hbad⟩]
  simp

end

/-- Settles O24. -/
theorem returnsComeInParts : Obligations.ReturnsComeInParts := by
  intro s c part frame hready hup hframe bad badCount malformed
  obtain ⟨mnemonic, effect, heffect⟩ := exec_of_returnFrame hframe
  have hlength := returnFrame_length hframe
  rw [heffect]
  unfold State.onReturn
  rw [State.onInput_ready _ hready]
  refine ⟨fun count hpart => ⟨fun h => ?_, fun hlong hbad => ?_⟩, fun hpart h => ?_, fun hpart hrx => ?_⟩
  · subst hpart
    refine congrArg Host.Outcome.next (State.receive_opening_good hup _ ?_)
    by_cases hshort : count < 6
    · exact .inl (by simp only [partBytes, List.length_take]; omega)
    · simp only [partBytes, headerOf_take _ (Nat.le_of_not_lt hshort)]
      exact .inr (h.resolve_left hshort)
  · subst hpart
    refine congrArg Host.Outcome.next (State.receive_opening_bad hup _ ?_ ?_)
    · simp only [partBytes, List.length_take]
      omega
    · simpa only [partBytes, headerOf_take _ hlong] using hbad
  · subst hpart
    by_cases hbad : bad
    · simp only [opensFrame, partBytes, State.receive_opening_bad hup frame (by omega) hbad]
      rw [State.endReturn_of_not_receiving (by simp)]
    · have hcause : dropCause? frame false = some .malformed := by
        rw [dropCause_eq _ _ (by omega)]
        exact if_pos (by have := h.resolve_left hbad; omega)
      simp only [opensFrame, partBytes, State.receive_opening_good hup frame (.inr hbad)]
      rw [State.endReturn_receiving rfl, hcause]
  · subst hpart
    have hreceive : ∀ symbols, s.receive false symbols = s := fun symbols =>
      State.takeReturn_of_not_receiving (by simp [hrx]) symbols
    simp only [opensFrame, hreceive]
    rw [State.endReturn_of_not_receiving (by simp [hrx])]

end Sys2Proof.Machine
end

section
/-!
The clock and the carrier: ticks, expiries, settling, restore and loss (O32 to O36).
-/

namespace Sys2Proof.Machine

/-! ### The tick (R90, R102) -/

section
variable {s : State} {t : Tag}

theorem exec_tick_running (hphase : s.phase = .running) (h : s.Quiet) : exec .tick s = .next s.tick := by
  show execTick s = _
  unfold execTick
  rw [State.afterOwed_quiet _ h]
  simp only [hphase]

/-- R90, R102: a tick notes that it makes something due. -/
theorem State.tick_atTick_iff : s.tick.atTick = true ↔
    (∃ t, (s.stream t).timer.tick = .due) ∨ s.carrier.tick = .settled := by
  rw [State.tick_atTick, ← Bool.not_eq_false, State.tickOwes_eq_false, State.lowerCounts_frame]
  have hstream : ∀ v, (({ s with carrier := s.carrier.tick, streams := s.lowerCounts.streams } : State).stream v).timer =
      (s.stream v).timer.tick := fun v => congrArg Stream.timer (State.stream_lowerCounts v)
  simp only [hstream]
  rw [not_and_or]
  simp

theorem Timer.tick_running {n : Nat} (h : 1 < n) : Timer.tick (.running n) = .running (n - 1) := if_neg (Nat.not_le.2 h)

theorem Timer.tick_eq_due {y : Timer} (hdue : y ≠ .due) : y.tick = .due ↔ ∃ n, y = .running n ∧ n ≤ 1 := by
  cases y with
  | running n =>
    by_cases hn : n ≤ 1 <;> simp [Timer.tick, hn]
  | due => exact absurd rfl hdue
  | idle => simp [Timer.tick]
  | frozen n => simp [Timer.tick]

theorem Carrier.tick_eq_settled {x : Carrier} (hsettled : x ≠ .settled) : x.tick = .settled ↔ ∃ n, x = .settling n ∧ n ≤ 1 := by
  cases x with
  | settling n => by_cases hn : n ≤ 1 <;> simp [Carrier.tick, hn]
  | settled => exact absurd rfl hsettled
  | down => simp [Carrier.tick]
  | up => simp [Carrier.tick]

end

/-- Settles O32. -/
theorem tickLowersCounts : Obligations.TickLowersCounts := by
  intro s hphase hquiet
  have hdue := hquiet.1
  have hsettled := hquiet.2.1
  refine ⟨s.tick, exec_tick_running hphase hquiet, fun t => ⟨_, State.stream_tick t, fun n hn hlong => ?_, fun hn => ?_, fun hn => ?_⟩,
    fun n hn hlong => ?_, fun hn => ?_, fun hn => ?_, fun h => ?_, fun htimers hcarrier => ?_, ?_⟩
  · rw [hn]; exact Timer.tick_running hlong
  · rw [hn]; rfl
  · cases h : (s.stream t).timer with
    | running n => exact absurd h (hn n)
    | idle => rfl
    | due => rfl
    | frozen n => rfl
  · rw [State.tick_carrier, hn]
    exact if_neg (Nat.not_le.2 hlong)
  · rw [State.tick_carrier, hn]; rfl
  · rw [State.tick_carrier]
    cases h : s.carrier with
    | settling n => exact absurd h (hn n)
    | down => rfl
    | settled => rfl
    | up => rfl
  · rw [State.tick_atTick_iff]
    obtain ⟨t, ht⟩ | hc := h
    · exact .inl ⟨t, by rw [ht]; rfl⟩
    · exact .inr (by rw [hc]; rfl)
  · refine Bool.eq_false_of_not_eq_true fun h => ?_
    obtain ⟨t, ht⟩ | hc := State.tick_atTick_iff.1 h
    · obtain ⟨n, hn, hshort⟩ := (Timer.tick_eq_due (hdue t)).1 ht
      exact absurd (htimers t n hn) (Nat.not_lt.2 hshort)
    · obtain ⟨n, hn, hshort⟩ := (Carrier.tick_eq_settled hsettled).1 hc
      exact absurd (hcarrier n hn) (Nat.not_lt.2 hshort)
  · conv_lhs => rw [State.tick_frame]
    rw [State.tick_frame]

/-! ### Expiries (R93, R94) -/

section
variable {s : State} {t : Tag}

theorem exec_timerExpiry_due (hphase : s.phase = .running) (hdue : (s.stream t).timer = .due) :
    exec (.timerExpiry t) s = .next (s.expire t) := if_pos ⟨hphase, hdue⟩

/-- R93: an expiry with budget left. -/
theorem State.expire_paid (h : 0 < (s.stream t).budget) :
    s.expire t = { s.setStream t
        { s.stream t with
          counters := { (s.stream t).counters with timeouts := (s.stream t).counters.timeouts + 1#32 }
          budget := (s.stream t).budget - 1, cursor := (s.stream t).head, timer := .idle } with
      events := s.settings.record s.events
        { kind := .timeoutReplay, streamTag := BitVec.ofNat 8 t.number
          drainTag := BitVec.ofNat 8 (s.stream t).config.drainTag.val, serial := (s.stream t).head.setWidth 16
          detail := BitVec.ofNat 16 ((s.stream t).budget - 1) } } := by
  unfold State.expire
  simp only [State.stream_countStream_self, h, if_true]
  rw [State.raise_eq, State.countStream, State.updateStream_eq, State.setStream_setStream]
  rfl

/-- R94: an expiry with no budget left. -/
theorem State.expire_unpaid (h : (s.stream t).budget = 0) :
    s.expire t = { s.setStream t
        { s.stream t with
          counters := { (s.stream t).counters with timeouts := (s.stream t).counters.timeouts + 1#32 }
          state := .halted, timer := .idle, closeRequested := false } with
      events := s.settings.record s.events (haltedRecord t (s.stream t) 0x0001#16) } := by
  unfold State.expire
  dsimp only
  rw [if_neg (by simp [h]), State.countStream, State.updateStream_eq, State.halt_setStream]
  rfl

/-- R79, R90: a stream behind the expiries that a tick made due, while the carrier is UP. -/
theorem State.stream_found_of_atTick (hphase : s.phase = .running) (htick : s.atTick = true) (hup : s.carrier = .up) :
    s.found.stream t = (if (s.stream t).timer = .due then (s.stream t).expired else s.stream t) ∧ s.found.carrier = .up ∧
      s.found.drainTx = s.drainTx := by
  have hcarrier : s.expireDue.carrier = .up := by
    unfold State.expireDue
    rw [State.foldl_expire_frame]
    exact hup
  have htx : s.expireDue.drainTx = s.drainTx := by
    unfold State.expireDue
    rw [State.foldl_expire_frame]
  have hfound : s.found = s.expireDue.setAtTick false := by
    unfold State.found State.takeTick
    rw [hphase]
    dsimp only
    rw [if_pos htick, State.finishSettling_of_ne (by rw [hcarrier]; exact nofun)]
  rw [hfound]
  exact ⟨State.stream_expireDue t, hcarrier, htx⟩

/-- R79: a REPLAY of the head of a stream that has just expired, in a state that holds that stream's record behind its expiry. -/
theorem exec_replay_atTick {z : State} {d : Byte} (hroutes : z.Routes d t) (htick : z.atTick = true) {x : Stream}
    (hx : z.found.stream t = x) :
    ∃ a : State, a.stream t = x ∧ a.drainTx = z.drainTx ∧
      exec (.replay .whole ⟨d, x.head⟩) z = .next ((a.setStream t x.replayCounted).replayAtHead t x.head) := by
  obtain ⟨⟨hphase, hpin⟩, hup, hd, hmapped⟩ := hroutes
  obtain ⟨-, hfoundUp, htx⟩ := State.stream_found_of_atTick (t := t) hphase htick hup
  have hawake : z.found.Awake := ⟨z.found_phase.trans hphase, z.found_resetPin.trans hpin⟩
  have hmap : ({ z.found with drainRx := .awaitStart, port := z.found.portAtStart } : State).mapped ⟨d.toNat, hd⟩ = some t := by
    rw [← hmapped]
    show z.found.mapped _ = _
    unfold State.mapped
    rw [State.found_drainMap]
  refine ⟨{ z.found with drainRx := .awaitStart, port := z.found.portAtStart }, hx, htx, ?_⟩
  rw [exec_replay_routed (a := { z.found with drainRx := .awaitStart, port := z.found.portAtStart }) (t := t)
    ⟨hawake, hfoundUp, rfl⟩ ⟨hawake, hfoundUp, hd, hmap⟩]
  have hhead := State.takeReplay_head { z.found with drainRx := .awaitStart, port := z.found.portAtStart } t d
  have hstream : ({ z.found with drainRx := .awaitStart, port := z.found.portAtStart } : State).stream t = x := hx
  rw [hstream] at hhead
  rw [hhead]

end

/-- Settles O33: behind the expiry the cursor stands at head, so the REPLAY costs nothing. -/
theorem expiryReplays : Obligations.ExpiryReplays := by
  intro s t hphase hdue hbudget x u
  have hexpire : s.expire t = u := State.expire_paid hbudget
  refine ⟨(exec_timerExpiry_due hphase hdue).trans (congrArg _ hexpire), fun d hroutes htick hlive z hz => ?_⟩
  have hstream : u.stream t = x.expired := by rw [← hexpire, State.stream_expire]
  obtain ⟨hzroutes, hztick, hztx, hzfound⟩ : z.Routes d t ∧ z.atTick = true ∧ z.drainTx = s.drainTx ∧ z.found.stream t = x.expired := by
    obtain rfl | rfl := hz
    · refine ⟨hroutes, htick, rfl, ?_⟩
      rw [(State.stream_found_of_atTick hphase htick hroutes.2.1).1, if_pos hdue]
    · refine ⟨hroutes, htick, rfl, ?_⟩
      have hfound := (State.stream_found_of_atTick (s := u) (t := t) hphase htick hroutes.2.1).1
      rw [hstream, Stream.expired_timer] at hfound
      exact hfound
  obtain ⟨a, hstream, hatx, hexec⟩ := exec_replay_atTick hzroutes hztick hzfound
  have hexpired : x.expired = { x with
      counters := { x.counters with timeouts := x.counters.timeouts + 1#32 }
      budget := x.budget - 1, cursor := x.head, timer := .idle } := by
    unfold Stream.expired
    dsimp only
    rw [if_pos hbudget]
  rw [hexpired] at hexec
  refine ⟨_, hexec.trans (congrArg _ (State.replayAtHead_atCursor_live _ _ rfl hlive)), hatx.trans hztx, ?_⟩
  exact State.stream_setStream_self _ _ _

/-- Settles O34: behind the expiry the stream is HALTED, so the REPLAY moves the cursor and charges nothing. -/
theorem expiryHalts : Obligations.ExpiryHalts := by
  intro s t hphase hdue hbudget x
  have hexpire := State.expire_unpaid (s := s) (t := t) hbudget
  refine ⟨_, exec_timerExpiry_due hphase hdue, fun hpin => ?_, hexpire, fun d hroutes htick z hz => ?_⟩
  · rw [State.attnN_eq_false_iff (by rw [hexpire]; exact hphase) (by rw [hexpire]; exact hpin)]
    refine .inl ⟨t, ?_⟩
    rw [State.stream_expire]
    simp [Stream.expired, hbudget]
  · have hexpired : x.expired = { x with
        counters := { x.counters with timeouts := x.counters.timeouts + 1#32 }
        state := .halted, timer := .idle, closeRequested := false } := by
      unfold Stream.expired
      dsimp only
      rw [if_neg (by simp [x, hbudget])]
    obtain ⟨hzroutes, hztick, hztx, hzfound⟩ :
        z.Routes d t ∧ z.atTick = true ∧ z.drainTx = s.drainTx ∧ z.found.stream t = x.expired := by
      obtain rfl | rfl := hz
      · refine ⟨hroutes, htick, rfl, ?_⟩
        rw [(State.stream_found_of_atTick hphase htick hroutes.2.1).1, if_pos hdue]
      · have hzphase : (s.expire t).phase = .running := by rw [hexpire]; exact hphase
        have hztick : (s.expire t).atTick = true := by rw [hexpire]; exact htick
        have hzup : (s.expire t).carrier = .up := by rw [hexpire]; exact hroutes.2.1
        refine ⟨by rw [hexpire]; exact hroutes, hztick, by rw [hexpire]; rfl, ?_⟩
        rw [(State.stream_found_of_atTick hzphase hztick hzup).1, State.stream_expire, Stream.expired_timer]
        exact if_neg nofun
    obtain ⟨a, -, hatx, hexec⟩ := exec_replay_atTick hzroutes hztick hzfound
    rw [hexpired] at hexec
    by_cases hcursor : x.cursor = x.head
    · refine ⟨_, hexec.trans (congrArg _ (State.replayAtHead_atCursor_halted _ _ hcursor (by simp [Stream.replayCounted]))),
        hatx.trans hztx, ?_⟩
      rw [State.stream_setStream_self, Stream.replayCounted, ← hcursor]
    · refine ⟨_, hexec.trans (congrArg _ (State.replayAtHead_halted _ _ hcursor rfl)), hatx.trans hztx, ?_⟩
      exact State.stream_setStream_self _ _ _

/-! ### The carrier (R102, R104) -/

section
variable {s : State} {t : Tag}

theorem exec_carrierPresent_ready (h : s.Ready) :
    exec .carrierPresent s = .next { s with carrierPin := true }.followCarrier := by
  show execCarrierPresent s = _
  unfold execCarrierPresent
  rw [State.besideOwed_quiet _ h.2, State.setCarrierPin, if_pos h.1]

theorem exec_carrierAbsent_ready (h : s.Ready) :
    exec .carrierAbsent s = .next { s with carrierPin := false }.followCarrier := by
  show execCarrierAbsent s = _
  unfold execCarrierAbsent
  rw [State.besideOwed_quiet _ h.2, State.setCarrierPin, if_pos h.1]

theorem State.followCarrier_present_down (hpin : s.carrierPin = true) (h : s.carrier = .down) :
    s.followCarrier = { s with carrier := .settling s.settings.settleTime } := by
  unfold State.followCarrier
  rw [hpin, h]

theorem State.followCarrier_present (hpin : s.carrierPin = true) (h : s.carrier ≠ .down) : s.followCarrier = s := by
  unfold State.followCarrier
  rw [hpin]
  cases hc : s.carrier with
  | down => exact absurd hc h
  | settling n => rfl
  | settled => rfl
  | up => rfl

theorem State.followCarrier_absent (hpin : s.carrierPin = false) (h : s.carrier ≠ .up) :
    s.followCarrier = { s with carrier := .down } := by
  cases hc : s.carrier with
  | down =>
    have hsame : s.followCarrier = s := by
      unfold State.followCarrier
      rw [hpin, hc]
    rw [hsame, ← hc]
  | settling n => unfold State.followCarrier; rw [hpin, hc]
  | settled => unfold State.followCarrier; rw [hpin, hc]
  | up => exact absurd hc h

theorem State.followCarrier_lost (hpin : s.carrierPin = false) (h : s.carrier = .up) : s.followCarrier = s.carrierLoss := by
  unfold State.followCarrier
  rw [hpin, h]

theorem Stream.restored_iff (x : Stream) : x.restored = true ↔ x.Live ∧ x.queue ≠ [] := by
  simp [Stream.restored, StreamState.live_iff]

end

/-- Settles O35. -/
theorem carrierSettlesAndRestores : Obligations.CarrierSettlesAndRestores := by
  intro s
  refine ⟨fun h hdown => ?_, fun h hdown => ?_, fun h hup => ?_, fun hphase hsettled => ?_⟩
  · rw [exec_carrierPresent_ready h, State.followCarrier_present_down (s := { s with carrierPin := true }) rfl hdown]
  · rw [exec_carrierPresent_ready h, State.followCarrier_present (s := { s with carrierPin := true }) rfl hdown]
  · rw [exec_carrierAbsent_ready h, State.followCarrier_absent (s := { s with carrierPin := false }) rfl hup]
  · refine ⟨s.carrierUp, if_pos ⟨hphase, hsettled⟩, fun t ht => ?_, fun t ht => ?_, ?_, ?_⟩
    · rw [State.stream_carrierUp, Stream.restore, if_pos ((Stream.restored_iff _).2 ht)]
      rfl
    · rw [State.stream_carrierUp, Stream.restore, if_neg (mt (Stream.restored_iff _).1 ht)]
    · rw [State.carrierUp_eq, State.countP_streams]
      simp only [carrierUpRecord, ← Stream.restored_iff, Bool.decide_eq_true]
    · rw [State.carrierUp_eq]

/-! ### Carrier loss (R105) -/

section
variable {s u : State} {t : Tag}

theorem PoolFollows.of_same_count {b : EventBlock} (h : PoolFollows s u b)
    (hcount : u.pool.freeCells.length = s.pool.freeCells.length) : u.pool.level = s.pool.level ∧ u.events = b := by
  unfold PoolFollows at h
  dsimp only at h
  rwa [if_pos (.inl hcount)] at h

theorem State.carrierLoss_pool_of_none (h : abandonedRecords s.drainTx = []) : s.carrierLoss.pool = s.pool := by
  have hcells := s.carrierLoss_freeCells
  have hrecords := s.carrierLoss_freeRecords
  rw [h] at hcells hrecords
  simp only [List.flatMap_nil, List.map_nil, List.append_nil] at hcells hrecords
  have hlevel := (s.poolFollows_carrierLoss.of_same_count (congrArg List.length hcells)).1
  generalize s.carrierLoss.pool = p at *
  cases p
  cases hs : s.pool
  simp_all

theorem abandonedRecords_of_not_deferred {tx : Option DrainTransmission} (h : ∀ record d x, tx ≠ some (.data record false d x)) :
    abandonedRecords tx = [] := by
  match tx with
  | some (.data record true d x) => rfl
  | some (.data record false d x) => exact absurd rfl (h record d x)
  | some (.note _) => rfl
  | some (.noteDone _ _) => rfl
  | some (.noteRefused _ _) => rfl
  | none => rfl

theorem carrierLostRecord_of_not_data {tx : Option DrainTransmission} (h : ∀ record resident d x, tx ≠ some (.data record resident d x))
    (frozen : Nat) : carrierLostRecord tx frozen = { kind := .carrierLost, detail := BitVec.ofNat 16 frozen } := by
  match tx with
  | some (.data record resident d x) => exact absurd rfl (h record resident d x)
  | some (.note _) => rfl
  | some (.noteDone _ _) => rfl
  | some (.noteRefused _ _) => rfl
  | none => rfl

theorem DrainReceiver.carrierLost_eq (r : DrainReceiver) :
    r.carrierLost = if r = .awaitStart then .awaitStart else .discarding := by
  cases r <;> rfl

end

/-- Settles O36. -/
theorem carrierLoss : Obligations.CarrierLoss := by
  intro s hready hup frozen absent
  have hexec := exec_carrierAbsent_ready hready
  rw [State.followCarrier_lost (s := { s with carrierPin := false }) rfl hup] at hexec
  have hstream := fun t => State.stream_carrierLoss { s with carrierPin := false } t
  have hcells := State.carrierLoss_freeCells { s with carrierPin := false }
  have hrecords := State.carrierLoss_freeRecords { s with carrierPin := false }
  have hfollows := State.poolFollows_carrierLoss { s with carrierPin := false }
  have hsame := State.carrierLoss_pool_of_none (s := { s with carrierPin := false })
  have hframe := State.carrierLoss_frame { s with carrierPin := false }
  have hfrozen : BitVec.ofNat 16 (State.runningTimers { s with carrierPin := false }) = frozen :=
    congrArg (BitVec.ofNat 16) (s.countP_streams fun x => x.timer.isRunning)
  have hnotes : (State.carrierLoss { s with carrierPin := false }).notes =
      { s.notes with forward := s.notes.forward.carrierLost } := by rw [hframe]
  generalize State.carrierLoss { s with carrierPin := false } = u at *
  refine ⟨u, carrierLostRecord s.drainTx (State.runningTimers { s with carrierPin := false }), hexec,
    fun record resident d x htx => ?_, fun htx => ?_, fun record d x htx => ?_,
    fun htx => hsame (abandonedRecords_of_not_deferred htx), hfollows, fun t => ⟨_, hstream t, fun hidle => ?_, fun n hn => ?_⟩,
    fun n hn => ?_, fun n hn => ?_, fun hn => ?_, ?_⟩
  · rw [htx, ← hfrozen]; rfl
  · rw [carrierLostRecord_of_not_data htx, hfrozen]
  · dsimp only at hcells hrecords
    rw [htx] at hcells hrecords
    exact ⟨by simpa [abandonedRecords] using hcells, by simpa [abandonedRecords] using hrecords⟩
  · rw [show (State.stream { s with carrierPin := false } t).timer = .idle from hidle]; rfl
  · obtain hn | hn := hn <;>
      rw [show (State.stream { s with carrierPin := false } t).timer = _ from hn] <;> rfl
  · obtain hn | hn := hn <;> rw [hnotes, hn] <;> rfl
  · rw [hnotes, hn]; rfl
  · rw [hnotes]
    obtain hn | ⟨n, hn⟩ := hn
    · rw [hn, NoteSlot.carrierLost, ← hn]
    · rw [hn, NoteSlot.carrierLost, ← hn]
  · rw [← DrainReceiver.carrierLost_eq, hnotes]
    exact hframe

end Sys2Proof.Machine
end

section
/-!
The transmitters of both links: what starts, what completes, and the bytes that are sent (O37, O39, O41, O42, O44, O45).
-/

namespace Sys2Proof.Machine

/-! ### Decisions carried out -/

section
variable {s : State}

/-- R112: an arbiter's choice that is not DATA is carried out by its own start command. -/
theorem exec_starter_of_drainDecision {k : DrainChoice} (h : s.drainDecision = some k) (hk : ∀ choice, k ≠ .data choice) :
    exec k.starter s = .next s.decideDrain := by
  cases k with
  | noteDone i =>
    rw [State.decideDrain_of_noteDone h]
    show execDrainIndicationStart s = _
    unfold execDrainIndicationStart; rw [h]
  | noteRefused i =>
    rw [State.decideDrain_of_noteRefused h]
    show execDrainIndicationStart s = _
    unfold execDrainIndicationStart; rw [h]
  | forwardNote n =>
    rw [State.decideDrain_of_forwardNote h]
    show execForwardNoteStart s = _
    unfold execForwardNoteStart; rw [h]
  | data choice => exact absurd rfl (hk choice)

theorem exec_dataTransmissionStart {k : DataChoice} {record : FrameRecord} (h : s.drainDecision = some (.data k))
    (hf : (s.stream k.stream).frameAtCursor = some record) : exec .dataTransmissionStart s = .next (s.startData k record) := by
  show execDataTransmissionStart s = _
  unfold execDataTransmissionStart
  rw [h]
  dsimp only
  rw [hf]

/-- R170: an arbiter's choice is carried out by its own start command. -/
theorem exec_starter_of_feedDecision {k : FeedChoice} (h : s.feedDecision = some k) :
    exec k.starter s = .next (s.startFeed k) := by
  cases k with
  | flow i => show execFlowFrameStart s = _; unfold execFlowFrameStart; rw [h]
  | noteDone i => show execFeedIndicationStart s = _; unfold execFeedIndicationStart; rw [h]
  | noteRefused i => show execFeedIndicationStart s = _; unfold execFeedIndicationStart; rw [h]
  | response r => show execResponseStart s = _; unfold execResponseStart; rw [h]
  | backNote n => show execBackNoteStart s = _; unfold execBackNoteStart; rw [h]
  | event e => show execEventFrameStart s = _; unfold execEventFrameStart; rw [h]

end

/-! ### The drain transmitter (R63, R109 to R116, R136, R140) -/

theorem ClassWeights.ofClass_spend (w : ClassWeights) (c d : StreamClass) :
    (w.spend c).ofClass d = if d = c then w.ofClass d - 1 else w.ofClass d := by
  fin_cases c <;> fin_cases d <;> rfl

theorem Positions.ofClass_serve (p : Positions) (c d : StreamClass) (t : Tag) :
    (p.serve c t).ofClass d = if d = c then t else p.ofClass d := by
  fin_cases c <;> fin_cases d <;> rfl

/-- Settles O37: the decision is the stream that the arbiter serves, and its frame at the cursor starts. -/
theorem dataTransmissionStarts : Obligations.DataTransmissionStarts := by
  intro s t c credits record hfree hnote hserves x hrecord
  have hdecision : s.drainDecision = some (.data ⟨t, c, credits⟩) := State.drainDecision_data.2 ⟨hfree, hnote, hserves⟩
  refine ⟨_, exec_dataTransmissionStart hdecision hrecord, rfl, ?_, fun v hv => State.stream_setStream_ne s _ hv,
    ClassWeights.ofClass_spend credits c, fun d => Positions.ofClass_serve s.positions c d t, rfl⟩
  refine (State.stream_setStream_self s t x.startFrame).trans ?_
  rw [add_ite, BitVec.add_zero]
  rfl

theorem exec_drainIndicationComplete_done {s : State} {sent : Indication} {tally : Option Indication} (h : s.Ready)
    (htx : s.drainTx = some (.noteDone sent tally)) : exec .drainIndicationComplete s =
      .next { s with drainTx := none, notes := { s.notes with doneToConsumer := tally } } := by
  show execDrainIndicationComplete s = _
  rw [execDrainIndicationComplete, State.onTransmission_ready _ h]
  simp only [htx]

theorem exec_drainIndicationComplete_refused {s : State} {sent : Indication} {tally : Option Indication} (h : s.Ready)
    (htx : s.drainTx = some (.noteRefused sent tally)) : exec .drainIndicationComplete s =
      .next { s with drainTx := none, notes := { s.notes with refusedToConsumer := tally } } := by
  show execDrainIndicationComplete s = _
  rw [execDrainIndicationComplete, State.onTransmission_ready _ h]
  simp only [htx]

theorem exec_forwardNoteComplete {s : State} {n : Note} (h : s.Ready) (htx : s.drainTx = some (.note n)) :
    exec .forwardNoteComplete s =
      .next { s with drainTx := none, notes := { s.notes with forward := s.notes.forward.complete } } := by
  show execForwardNoteComplete s = _
  rw [execForwardNoteComplete, State.onTransmission_ready _ h]
  simp only [htx]

/-- Settles O39: the starts are the arbiter's decisions in its order, the completions what the frame in transmission says. -/
theorem drainNotesStartAndComplete : Obligations.DrainNotesStartAndComplete := by
  intro s
  refine ⟨fun hfree => ⟨fun i hi => ?_, fun i hdone hi => ?_, fun n hdone hrefused hn => ?_⟩, fun sent tally h htx => ?_,
    fun sent tally h htx => ?_, fun n h htx => ⟨fun hslot => ?_, fun hslot => ?_⟩⟩
  · have hdecision := State.drainDecision_noteDone.2 ⟨hfree, hi⟩
    exact (exec_starter_of_drainDecision hdecision nofun).trans (congrArg _ (State.decideDrain_of_noteDone hdecision))
  · have hdecision := State.drainDecision_noteRefused.2 ⟨hfree, hi, hdone⟩
    exact (exec_starter_of_drainDecision hdecision nofun).trans (congrArg _ (State.decideDrain_of_noteRefused hdecision))
  · have hdecision := State.drainDecision_forwardNote.2 ⟨hfree, hn, hdone, hrefused⟩
    exact (exec_starter_of_drainDecision hdecision nofun).trans (congrArg _ (State.decideDrain_of_forwardNote hdecision))
  · exact exec_drainIndicationComplete_done h htx
  · exact exec_drainIndicationComplete_refused h htx
  · rw [exec_forwardNoteComplete h htx, hslot]; rfl
  · rw [exec_forwardNoteComplete h htx, hslot]; rfl

/-! ### The feed transmitter (R128, R131, R132, R141, R168, R170, R171) -/

/-- R131, R132: a FLOW indication that the flow block supplies goes out. -/
theorem exec_flowFrameStart {s : State} (hfree : s.FeedFree) {i : FlowIndication} (h : s.SendsFlow i) :
    exec .flowFrameStart s = .next (s.startFeed (.flow i)) :=
  exec_starter_of_feedDecision (k := .flow i) (State.feedDecision_eq_some.2 ⟨hfree, h⟩)

/-- Settles O41: the indication is the pool's, or that of the first stream after the flow position. -/
theorem flowFrameStarts : Obligations.FlowFrameStarts := by
  intro s hfree
  refine ⟨fun hlevel hsent => ?_, fun hlevel hsent => ?_, fun t hpool hwaits hfirst => ?_⟩
  · have hsends : s.SendsFlow .poolPause := .inl ⟨by rw [hlevel, hsent]; nofun, by rw [if_pos hlevel]⟩
    exact exec_flowFrameStart hfree hsends
  · have hsends : s.SendsFlow .poolGo := .inl ⟨by rw [hlevel, hsent]; nofun, by rw [hlevel]; rfl⟩
    exact exec_flowFrameStart hfree hsends
  · rw [exec_flowFrameStart hfree (.inr ⟨hpool, t, hwaits, hfirst, rfl⟩)]
    cases hflow : (s.stream t).flow with
    | paused => rfl
    | go => rfl

/-- Settles O42: each start is the decision that the table names where nothing above it waits. -/
theorem feedFramesStartInOrder : Obligations.FeedFramesStartInOrder := by
  intro s hfree hflow d r
  refine ⟨fun i hi => ?_, fun i hd hi => ?_, fun a before after hd hr hslots hbefore => ?_,
    fun hd hr hanswer => ⟨fun n hn => ?_, fun e rest hback hqueue => ?_⟩⟩
  · exact exec_starter_of_feedDecision (k := .noteDone i) (State.feedDecision_eq_some.2 ⟨hfree, hflow, hi⟩)
  · exact exec_starter_of_feedDecision (k := .noteRefused i) (State.feedDecision_eq_some.2 ⟨hfree, hflow, hd, hi⟩)
  · exact exec_starter_of_feedDecision (k := .response a)
      (State.feedDecision_eq_some.2 ⟨hfree, hflow, hd, hr, before, after, hslots, hbefore⟩)
  · exact exec_starter_of_feedDecision (k := .backNote n) (State.feedDecision_eq_some.2 ⟨hfree, hflow, hd, hr, hanswer, hn⟩)
  · have hhead : s.events.queue.head? = some e := by rw [hqueue]; rfl
    refine (exec_starter_of_feedDecision (k := .event e)
      (State.feedDecision_eq_some.2 ⟨hfree, hflow, hd, hr, hanswer, hback, hhead, rfl⟩)).trans ?_
    rw [State.startFeed, hqueue]
    rfl

theorem exec_feedFrameComplete {s : State} {f : FeedFrame} (h : s.Ready) (htx : s.feedTx = some f)
    (hresponse : ∀ a, f ≠ .response a) (hnote : ∀ n, f ≠ .note n) :
    exec .feedFrameComplete s = .next { s with feedTx := none } := by
  show execFeedFrameComplete s = _
  rw [execFeedFrameComplete, State.onTransmission_ready _ h]
  cases f with
  | response a => exact absurd rfl (hresponse a)
  | note n => exact absurd rfl (hnote n)
  | flow i => simp only [htx]
  | noteDone i => simp only [htx]
  | noteRefused i => simp only [htx]
  | event e lost => simp only [htx]

theorem exec_backNoteComplete {s : State} {n : Note} (h : s.Ready) (htx : s.feedTx = some (.note n)) :
    exec .backNoteComplete s =
      .next { s with feedTx := none, notes := { s.notes with back := s.notes.back.complete } } := by
  show execBackNoteComplete s = _
  rw [execBackNoteComplete, State.onTransmission_ready _ h]
  simp only [htx]

theorem exec_responseComplete {s : State} {a : Response} {straps : Straps} (h : s.Ready) (htx : s.feedTx = some (.response a))
    (hends : s.endsInReset a = false) :
    exec (.responseComplete straps) s = .next { s with feedTx := none, slots := freeOldestAnswer s.slots } := by
  show execResponseComplete straps s = _
  rw [execResponseComplete, State.onTransmission_ready _ h]
  simp only [htx, hends, Bool.false_eq_true, if_false]

theorem State.endsInReset_eq_false {s : State} {a : Response} :
    s.endsInReset a = false ↔ s.resetPending = false ∨ a.command ≠ 0x0D#8 ∨ a.status ≠ .ok := by
  simp [State.endsInReset, commandResetDevice, Decidable.imp_iff_not_or, or_assoc]

/-- R148: the oldest ANSWERING slot is freed. -/
theorem freeOldestAnswer_append {before after : List Slot} {a : Response} (h : ∀ b, .answering b ∉ before) :
    freeOldestAnswer (before ++ .answering a :: after) = before ++ after := by
  induction before with
  | nil => rfl
  | cons x rest ih =>
    have hrest := ih fun b hb => h b (List.mem_cons_of_mem _ hb)
    cases x with
    | answering b => exact absurd (List.mem_cons_self ..) (h b)
    | queued r => exact congrArg _ hrest
    | executing r => exact congrArg _ hrest

/-- Settles O44. -/
theorem feedFramesComplete : Obligations.FeedFramesComplete := by
  intro s h
  refine ⟨fun f htx hresponse hnote => exec_feedFrameComplete h htx hresponse hnote,
    fun n htx => ⟨fun hslot => ?_, fun hslot => ?_⟩, fun a before after straps htx hends hslots hbefore => ?_⟩
  · rw [exec_backNoteComplete h htx, hslot]; rfl
  · rw [exec_backNoteComplete h htx, hslot]; rfl
  · rw [exec_responseComplete h htx (State.endsInReset_eq_false.2 hends), hslots, freeOldestAnswer_append hbefore]

/-! ### The bytes that are sent (R107, R171, R173 to R183) -/

section
variable {s : State}

theorem framed_zero (kind tag : Byte) (payload : List Byte) : framed kind tag 0 payload = frameBytes kind tag 0#12 payload :=
  framed_eq_frameBytes kind tag 0#12 payload

theorem Status.code_eq_value (x : Status) : x.code = x.value := by cases x <;> rfl

theorem EventKind.code_eq_value (k : EventKind) : k.code = k.value := by cases k <;> rfl

theorem State.feedBytes_awake (h : s.Awake) {f : FeedFrame} (htx : s.feedTx = some f) : s.feedBytes = some f.bytes := by
  rw [State.feedBytes, if_pos h, htx]
  rfl

theorem State.drainBytes_awake (h : s.Awake) {tx : DrainTransmission} (htx : s.drainTx = some tx) :
    s.drainBytes = some (tx.bytes s.cells) := by
  rw [State.drainBytes, if_pos h, htx]
  rfl

theorem State.feedBytes_eq_none (h : ¬ s.Awake ∨ s.feedTx = none) : s.feedBytes = none := by
  obtain h | h := h
  · exact if_neg h
  · simp [State.feedBytes, h]

theorem State.drainBytes_eq_none (h : ¬ s.Awake ∨ s.drainTx = none) : s.drainBytes = none := by
  obtain h | h := h
  · exact if_neg h
  · simp [State.drainBytes, h]

/-- R28: a chain of the right size holds all bytes of its frame. -/
theorem le_chain_of_cells {length : Nat} {chain : List Nat} (h : chain.length = (length + 63) / 64) : length ≤ 64 * chain.length := by
  omega

end

/-- Settles O45: each frame by its kind; a DATA payload is read from its cells. -/
theorem sentFrameBytes : Obligations.SentFrameBytes := by
  intro s
  refine ⟨State.feedBytes_eq_none, State.drainBytes_eq_none, fun h f htx => ?_, fun h tx htx => ?_⟩
  · rw [State.feedBytes_awake h htx]
    cases f with
    | flow i => cases i <;> exact congrArg some (framed_zero ..).symm
    | noteDone i => exact congrArg some (framed_zero ..).symm
    | noteRefused i => exact congrArg some (framed_zero ..).symm
    | response a =>
      dsimp only
      rw [framed_zero, ← Status.code_eq_value]
      rfl
    | note n => exact congrArg some (framed_zero ..).symm
    | event e lost =>
      dsimp only
      rw [framed_zero, ← EventKind.code_eq_value, ← fieldBytes_eq, ← fieldBytes_eq, ← numberBytes_eq]
      rfl
  · have hbytes := State.drainBytes_awake h htx
    cases tx with
    | data record resident d x =>
      intro hchain
      refine ⟨s.cells.readChain record.chain record.length, ?_, Memory.readChain_length _ (le_chain_of_cells hchain),
        fun i hi => Memory.readChain_getElem? _ _ hi (le_chain_of_cells hchain)⟩
      rw [hbytes, framed_eq_frameBytes]
      rfl
    | note n => exact hbytes.trans (congrArg some (framed_zero ..).symm)
    | noteDone i tally => exact hbytes.trans (congrArg some (framed_zero ..).symm)
    | noteRefused i tally => exact hbytes.trans (congrArg some (framed_zero ..).symm)

end Sys2Proof.Machine
end

section
/-!
Requests: which command takes one, how it is validated, and what the requests that read or replace records answer (O46 to O49, O53).
-/

namespace Sys2Proof.Machine

/-! ### The effect step of a request (R147, R176) -/

/-- R176: what the effect step of a request answers, by its command. -/
def Request.answerTo (r : Request) (s : State) : Answer :=
  match r.command.toNat with
  | 1 => answerIdentify r s
  | 2 => answerReadSettings r s
  | 3 => answerWriteSettings r s
  | 4 => answerReadStream r s
  | 5 => answerWriteStream r s
  | 6 => answerOpenStream r s
  | 7 => answerCloseStream r s
  | 8 => answerFlushStream r s
  | 9 => answerRestartStream r s
  | 10 => answerReadCounters r s
  | 11 => answerClearNote r s
  | 12 => answerDiscardAll r s
  | 13 => answerResetDevice r s
  | _ => answerUnknown r s

section
variable {s : State} {r : Request} {c : Instr}

theorem Request.command_beq {k : Byte} (h : r.command.toNat = k.toNat) : (r.command == k) = true :=
  beq_iff_eq.2 (BitVec.eq_of_toNat_eq h)

theorem Request.answerTo_identify (h : r.command = 0x01#8) : r.answerTo s = answerIdentify r s := by
  rw [Request.answerTo, h]
  rfl

theorem Request.answerTo_readSettings (h : r.command = 0x02#8) : r.answerTo s = answerReadSettings r s := by
  rw [Request.answerTo, h]
  rfl

theorem Request.answerTo_writeSettings (h : r.command = 0x03#8) : r.answerTo s = answerWriteSettings r s := by
  rw [Request.answerTo, h]
  rfl

theorem Request.answerTo_readStream (h : r.command = 0x04#8) : r.answerTo s = answerReadStream r s := by
  rw [Request.answerTo, h]
  rfl

theorem Request.answerTo_writeStream (h : r.command = 0x05#8) : r.answerTo s = answerWriteStream r s := by
  rw [Request.answerTo, h]
  rfl

theorem Request.answerTo_closeStream (h : r.command = 0x07#8) : r.answerTo s = answerCloseStream r s := by
  rw [Request.answerTo, h]
  rfl

theorem Request.answerTo_readCounters (h : r.command = 0x0A#8) : r.answerTo s = answerReadCounters r s := by
  rw [Request.answerTo, h]
  rfl

theorem Request.answerTo_clearNote (h : r.command = 0x0B#8) : r.answerTo s = answerClearNote r s := by
  rw [Request.answerTo, h]
  rfl

theorem Request.answerTo_discardAll (h : r.command = 0x0C#8) : r.answerTo s = answerDiscardAll r s := by
  rw [Request.answerTo, h]
  rfl

theorem Request.answerTo_openStream (h : r.command = 0x06#8) : r.answerTo s = answerOpenStream r s := by
  rw [Request.answerTo, h]
  rfl

theorem Request.answerTo_flushStream (h : r.command = 0x08#8) : r.answerTo s = answerFlushStream r s := by
  rw [Request.answerTo, h]
  rfl

theorem Request.answerTo_restartStream (h : r.command = 0x09#8) : r.answerTo s = answerRestartStream r s := by
  rw [Request.answerTo, h]
  rfl

theorem Request.answerTo_resetDevice (h : r.command = 0x0D#8) : r.answerTo s = answerResetDevice r s := by
  rw [Request.answerTo, h]
  rfl

theorem Request.answerTo_of_unknown (h : ¬ (1 ≤ r.command.toNat ∧ r.command.toNat ≤ 13)) :
    r.answerTo s = .refuse s .badCommand := by
  unfold Request.answerTo
  split
  case h_14 => rfl
  all_goals omega

/-- R176: the command that takes a request runs the effect step that the request names. -/
theorem exec_of_takenBy (h : r.TakenBy c) : ∃ (mnemonic : String) (takes : Request → Bool) (effect : Request → State → Answer),
    takes r = true ∧ (∀ s, exec c s = s.effectStep mnemonic takes effect) ∧ ∀ s, effect r s = r.answerTo s := by
  unfold Request.TakenBy at h
  split at h
  · next hn =>
    subst h
    exact ⟨_, _, _, Request.command_beq hn, fun s => Eq.refl (execIdentify s),
      fun _ => (Request.answerTo_identify (BitVec.eq_of_toNat_eq hn)).symm⟩
  · next hn =>
    subst h
    exact ⟨_, _, _, Request.command_beq hn, fun s => Eq.refl (execReadSettings s),
      fun _ => (Request.answerTo_readSettings (BitVec.eq_of_toNat_eq hn)).symm⟩
  · next hn =>
    subst h
    exact ⟨_, _, _, Request.command_beq hn, fun s => Eq.refl (execWriteSettings s),
      fun _ => (Request.answerTo_writeSettings (BitVec.eq_of_toNat_eq hn)).symm⟩
  · next hn =>
    subst h
    exact ⟨_, _, _, Request.command_beq hn, fun s => Eq.refl (execReadStream s),
      fun _ => (Request.answerTo_readStream (BitVec.eq_of_toNat_eq hn)).symm⟩
  · next hn =>
    subst h
    exact ⟨_, _, _, Request.command_beq hn, fun s => Eq.refl (execWriteStream s),
      fun _ => (Request.answerTo_writeStream (BitVec.eq_of_toNat_eq hn)).symm⟩
  · next hn =>
    subst h
    exact ⟨_, _, _, Request.command_beq hn, fun s => Eq.refl (execOpenStream s),
      fun _ => (Request.answerTo_openStream (BitVec.eq_of_toNat_eq hn)).symm⟩
  · next hn =>
    have hcommand : (r.command == commandCloseStream) = true := Request.command_beq hn
    have hanswer : ∀ s, answerCloseStream r s = r.answerTo s :=
      fun _ => (Request.answerTo_closeStream (BitVec.eq_of_toNat_eq hn)).symm
    obtain ⟨rfl, hmode⟩ | ⟨rfl, hmode⟩ := h
    · exact ⟨_, _, _, by simp [hcommand, hmode], fun s => Eq.refl (execCloseStreamDrain s), hanswer⟩
    · exact ⟨_, _, _, by simp [hcommand, hmode], fun s => Eq.refl (execCloseStreamDiscard s), hanswer⟩
  · next hn =>
    subst h
    exact ⟨_, _, _, Request.command_beq hn, fun s => Eq.refl (execFlushStream s),
      fun _ => (Request.answerTo_flushStream (BitVec.eq_of_toNat_eq hn)).symm⟩
  · next hn =>
    subst h
    exact ⟨_, _, _, Request.command_beq hn, fun s => Eq.refl (execRestartStream s),
      fun _ => (Request.answerTo_restartStream (BitVec.eq_of_toNat_eq hn)).symm⟩
  · next hn =>
    subst h
    exact ⟨_, _, _, Request.command_beq hn, fun s => Eq.refl (execReadCounters s),
      fun _ => (Request.answerTo_readCounters (BitVec.eq_of_toNat_eq hn)).symm⟩
  · next hn =>
    subst h
    exact ⟨_, _, _, Request.command_beq hn, fun s => Eq.refl (execClearNote s),
      fun _ => (Request.answerTo_clearNote (BitVec.eq_of_toNat_eq hn)).symm⟩
  · next hn =>
    subst h
    exact ⟨_, _, _, Request.command_beq hn, fun s => Eq.refl (execDiscardAll s),
      fun _ => (Request.answerTo_discardAll (BitVec.eq_of_toNat_eq hn)).symm⟩
  · next hn =>
    subst h
    exact ⟨_, _, _, Request.command_beq hn, fun s => Eq.refl (execResetDevice s),
      fun _ => (Request.answerTo_resetDevice (BitVec.eq_of_toNat_eq hn)).symm⟩
  · next h1 h2 h3 h4 h5 h6 h7 h8 h9 h10 h11 h12 h13 =>
    have hrange : ¬ (1 ≤ r.command.toNat ∧ r.command.toNat ≤ 13) := by
      simp only [imp_false] at h1 h2 h3 h4 h5 h6 h7 h8 h9 h10 h11 h12 h13
      omega
    have hunknown : (!commandKnown r.command) = true := by
      simp only [commandKnown, Bool.not_eq_true', Bool.and_eq_false_iff, decide_eq_false_iff_not]
      omega
    subst h
    exact ⟨_, _, _, hunknown, fun s => Eq.refl (execUnknownCommand s), fun _ => (Request.answerTo_of_unknown hrange).symm⟩

/-- R147: the effect step of an EXECUTING request: what it answers stands in its slot, and the rest is what its effect leaves. -/
theorem exec_answered {answered : List Response} {queued : List Request} (h : s.Executing r answered queued) (hc : r.TakenBy c)
    {u : State} {status : Status} {result : List Byte} (ha : r.answerTo s = ⟨u, status, result⟩) (hslots : u.slots = s.slots)
    (hreset : u.resetPending = s.resetPending) :
    exec c s = .next { u with slots := answeredSlots answered (r.response status result) queued s.resetPending } := by
  obtain ⟨mnemonic, takes, effect, htakes, hexec, heffect⟩ := exec_of_takenBy hc
  have hanswer : effect r s = ⟨u, status, result⟩ := (heffect s).trans ha
  rw [hexec, State.effectStep_eq h mnemonic takes effect htakes (by rw [hanswer]; exact hslots), hanswer, ← hreset]

theorem Request.takenBy_close_drain (hcommand : r.command = 0x07#8) (h : r.parameters = [0#8]) : r.TakenBy .closeStreamDrain := by
  simp [Request.TakenBy, hcommand, h]

theorem Request.takenBy_close_discard (hcommand : r.command = 0x07#8) (h : r.parameters = [1#8]) :
    r.TakenBy .closeStreamDiscard := by
  simp [Request.TakenBy, hcommand, h]

end

/-! ### Validation (R150, R151, R152) -/

/-- R150 to R152: a request that fails its validation is answered with the status of its first failure, and changes nothing. -/
structure Request.RefusedAs (r : Request) (s : State) (a : Answer) : Prop where
  target : ¬ r.GoodTarget → a = .refuse s .badTag
  parameters : r.GoodTarget → ¬ r.GoodParameters → a = .refuse s .badValue
  state : ∀ t : Tag, t.number = r.target.toNat → r.GoodParameters → r.BadStateFor (s.stream t) → a = .refuse s .badState
  conflict : ∀ (t holder : Tag), t.number = r.target.toNat → r.GoodParameters → r.command.toNat = 6 →
    (s.stream t).state = .closed → s.mapped (s.stream t).config.drainTag = some holder →
    a = { state := s, status := .conflict, result := [BitVec.ofNat 8 holder.number] }

section
variable {s : State} {r : Request}

theorem streamTarget_eq_none {b : Byte} : streamTarget? b = none ↔ ¬ (1 ≤ b.toNat ∧ b.toNat ≤ 63) := by
  rw [streamTarget?, tagOfNumber_eq_none]
  omega

theorem exists_streamTarget {b : Byte} (h : 1 ≤ b.toNat ∧ b.toNat ≤ 63) : ∃ t, streamTarget? b = some t :=
  Option.ne_none_iff_exists'.1 fun hnone => streamTarget_eq_none.1 hnone h

theorem streamTarget_of_number {b : Byte} {t : Tag} (h : t.number = b.toNat) : streamTarget? b = some t :=
  streamTarget_eq_some.2 h.symm

/-- R151, R152: a command of target tag 0 without parameters. -/
theorem refusedAs_plain (htarget : r.GoodTarget ↔ r.target.toNat = 0) (hparameters : r.GoodParameters ↔ r.parameters = [])
    (hstate : ∀ x, ¬ r.BadStateFor x) (hopen : r.command.toNat ≠ 6) (effect : State → Answer) :
    r.RefusedAs s (plainCommand r s effect) where
  target h := if_pos fun hzero => h (htarget.2 (by rw [hzero]; rfl))
  parameters ht h := by
    have hzero : r.target = 0#8 := BitVec.eq_of_toNat_eq (htarget.1 ht)
    rw [plainCommand, if_neg (not_not.2 hzero), if_pos (mt hparameters.2 h)]
  state _ _ _ h := absurd h (hstate _)
  conflict _ _ _ _ h := absurd h hopen

theorem refusedAs_writeSettings (hn : r.command.toNat = 3) : r.RefusedAs s (answerWriteSettings r s) where
  target h := by
    simp only [Request.GoodTarget, hn] at h
    exact if_pos fun hzero => h (by rw [hzero]; rfl)
  parameters ht h := by
    simp only [Request.GoodTarget, hn] at ht
    simp only [Request.GoodParameters, hn] at h
    have hzero : r.target = 0#8 := BitVec.eq_of_toNat_eq ht
    have hnone : settingsRecord? r.parameters = none :=
      Option.eq_none_iff_forall_ne_some.2 fun x hx => h ⟨x, settingsRecord_eq_some.1 hx⟩
    rw [answerWriteSettings, if_neg (not_not.2 hzero), hnone]
  state _ _ _ h := by simp only [Request.BadStateFor, hn] at h
  conflict _ _ _ _ h := by omega

theorem refusedAs_readStream (hn : r.command.toNat = 4) : r.RefusedAs s (answerReadStream r s) where
  target h := by
    simp only [Request.GoodTarget, hn] at h
    rw [answerReadStream, streamTarget_eq_none.2 h]
  parameters ht h := by
    simp only [Request.GoodTarget, hn] at ht
    simp only [Request.GoodParameters, hn] at h
    obtain ⟨t, ht⟩ := exists_streamTarget ht
    rw [answerReadStream, ht]
    exact if_pos h
  state _ _ _ h := by simp only [Request.BadStateFor, hn] at h
  conflict _ _ _ _ h := by omega

theorem StreamConfig.head_block (c : StreamConfig) : c.block.head? = some (BitVec.ofNat 8 c.drainTag.val) := rfl

theorem refusedAs_writeStream (hn : r.command.toNat = 5) : r.RefusedAs s (answerWriteStream r s) where
  target h := by
    simp only [Request.GoodTarget, hn] at h
    rw [answerWriteStream, streamTarget_eq_none.2 h]
  parameters ht h := by
    simp only [Request.GoodTarget, hn] at ht
    simp only [Request.GoodParameters, hn] at h
    obtain ⟨t, ht⟩ := exists_streamTarget ht
    have hnone : configBlock? r.parameters = none :=
      Option.eq_none_iff_forall_ne_some.2 fun c hc => h ⟨c, configBlock_eq_some.1 hc⟩
    rw [answerWriteStream, ht]
    dsimp only
    rw [hnone]
  state t ht hp h := by
    simp only [Request.GoodParameters, hn] at hp
    simp only [Request.BadStateFor, hn] at h
    obtain ⟨c, hc⟩ := hp
    have htag : c.drainTag ≠ (s.stream t).config.drainTag := fun heq => h.2 (by rw [hc.2, StreamConfig.head_block, heq])
    rw [answerWriteStream, streamTarget_of_number ht]
    dsimp only
    rw [configBlock_eq_some.2 hc]
    exact if_pos ⟨h.1, htag⟩
  conflict _ _ _ _ h := by omega

/-- R152: parameters in the form of an optional serial. -/
theorem exists_optionalSerial {p : List Byte} (h : p = [] ∨ ∃ n, n < 4096 ∧ p = twoBytes n) : ∃ o, optionalSerial? p = some o :=
  Option.ne_none_iff_exists'.1 fun hnone => optionalSerial_eq_none.1 hnone h

theorem refusedAs_openStream (hn : r.command.toNat = 6) : r.RefusedAs s (answerOpenStream r s) where
  target h := by
    simp only [Request.GoodTarget, hn] at h
    rw [answerOpenStream, streamTarget_eq_none.2 h]
  parameters ht h := by
    simp only [Request.GoodTarget, hn] at ht
    simp only [Request.GoodParameters, hn] at h
    obtain ⟨t, ht⟩ := exists_streamTarget ht
    rw [answerOpenStream, ht]
    dsimp only
    rw [optionalSerial_eq_none.2 h]
  state t ht hp h := by
    simp only [Request.GoodParameters, hn] at hp
    simp only [Request.BadStateFor, hn] at h
    obtain ⟨o, ho⟩ := exists_optionalSerial hp
    rw [answerOpenStream, streamTarget_of_number ht]
    dsimp only
    rw [ho]
    exact if_pos h
  conflict t holder ht hp _ hclosed hmapped := by
    simp only [Request.GoodParameters, hn] at hp
    obtain ⟨o, ho⟩ := exists_optionalSerial hp
    rw [answerOpenStream, streamTarget_of_number ht]
    dsimp only
    rw [ho]
    dsimp only
    rw [if_neg (not_not.2 hclosed), hmapped]
    rfl

theorem closeByDrain_of_not_opened {t : Tag} (h : (s.stream t).state ≠ .opened) : s.closeByDrain t = .refuse s .badState := by
  unfold State.closeByDrain
  cases hstate : (s.stream t).state with
  | opened => exact absurd hstate h
  | closed => rfl
  | draining => rfl
  | halted => rfl

theorem closeByDiscard_of_closed {t : Tag} (h : (s.stream t).state = .closed) : s.closeByDiscard t = .refuse s .badState := by
  unfold State.closeByDiscard
  rw [h]

theorem flagParameter_zero : flagParameter? [0#8] = some false := rfl
theorem flagParameter_one : flagParameter? [1#8] = some true := rfl

theorem refusedAs_closeStream (hn : r.command.toNat = 7) : r.RefusedAs s (answerCloseStream r s) where
  target h := by
    simp only [Request.GoodTarget, hn] at h
    rw [answerCloseStream, streamTarget_eq_none.2 h]
  parameters ht h := by
    simp only [Request.GoodTarget, hn] at ht
    simp only [Request.GoodParameters, hn] at h
    obtain ⟨t, ht⟩ := exists_streamTarget ht
    rw [answerCloseStream, ht]
    dsimp only
    rw [flagParameter_eq_none.2 h]
  state t ht hp h := by
    simp only [Request.GoodParameters, hn] at hp
    simp only [Request.BadStateFor, hn] at h
    rw [answerCloseStream, streamTarget_of_number ht]
    dsimp only
    obtain hdrain | hdiscard := hp
    · rw [hdrain, flagParameter_zero]
      refine closeByDrain_of_not_opened fun hopened => ?_
      obtain hclosed | hnot := h
      · rw [hclosed] at hopened; cases hopened
      · exact hnot.2 hopened
    · rw [hdiscard, flagParameter_one]
      obtain hclosed | hnot := h
      · exact closeByDiscard_of_closed hclosed
      · rw [hdiscard] at hnot; simp at hnot
  conflict _ _ _ _ h := by omega

theorem refusedAs_flushStream (hn : r.command.toNat = 8) : r.RefusedAs s (answerFlushStream r s) where
  target h := by
    simp only [Request.GoodTarget, hn] at h
    rw [answerFlushStream, streamTarget_eq_none.2 h]
  parameters ht h := by
    simp only [Request.GoodTarget, hn] at ht
    simp only [Request.GoodParameters, hn] at h
    obtain ⟨t, ht⟩ := exists_streamTarget ht
    rw [answerFlushStream, ht]
    dsimp only
    rw [optionalSerial_eq_none.2 h]
  state t ht hp h := by
    simp only [Request.GoodParameters, hn] at hp
    simp only [Request.BadStateFor, hn] at h
    obtain ⟨o, ho⟩ := exists_optionalSerial hp
    rw [answerFlushStream, streamTarget_of_number ht]
    dsimp only
    rw [ho]
    exact if_pos h
  conflict _ _ _ _ h := by omega

theorem refusedAs_restartStream (hn : r.command.toNat = 9) : r.RefusedAs s (answerRestartStream r s) where
  target h := by
    simp only [Request.GoodTarget, hn] at h
    rw [answerRestartStream, streamTarget_eq_none.2 h]
  parameters ht h := by
    simp only [Request.GoodTarget, hn] at ht
    simp only [Request.GoodParameters, hn] at h
    obtain ⟨t, ht⟩ := exists_streamTarget ht
    rw [answerRestartStream, ht]
    exact if_pos h
  state t ht hp h := by
    simp only [Request.GoodParameters, hn] at hp
    simp only [Request.BadStateFor, hn] at h
    rw [answerRestartStream, streamTarget_of_number ht]
    dsimp only
    rw [if_neg (not_not.2 hp), if_pos h]
  conflict _ _ _ _ h := by omega

theorem refusedAs_readCounters (hn : r.command.toNat = 10) : r.RefusedAs s (answerReadCounters r s) where
  target h := by
    simp only [Request.GoodTarget, hn] at h
    rw [answerReadCounters, if_neg (by rintro hzero; rw [hzero] at h; exact h (by decide)),
      streamTarget_eq_none.2 (by omega)]
  parameters ht h := by
    simp only [Request.GoodTarget, hn] at ht
    simp only [Request.GoodParameters, hn] at h
    have hnone := flagParameter_eq_none.2 h
    rw [answerReadCounters]
    split
    · rw [hnone]
    · next hnonzero =>
      have hpositive : 1 ≤ r.target.toNat := Nat.one_le_iff_ne_zero.2 fun hzero => hnonzero (BitVec.eq_of_toNat_eq hzero)
      obtain ⟨t, ht⟩ := exists_streamTarget ⟨hpositive, ht⟩
      rw [ht]
      dsimp only
      rw [hnone]
  state _ _ _ h := by simp only [Request.BadStateFor, hn] at h
  conflict _ _ _ _ h := by omega

theorem refusedAs_clearNote (hn : r.command.toNat = 11) : r.RefusedAs s (answerClearNote r s) where
  target h := by
    simp only [Request.GoodTarget, hn] at h
    exact if_pos fun hzero => h (by rw [hzero]; rfl)
  parameters ht h := by
    simp only [Request.GoodTarget, hn] at ht
    simp only [Request.GoodParameters, hn] at h
    have hzero : r.target = 0#8 := BitVec.eq_of_toNat_eq ht
    rw [answerClearNote, if_neg (not_not.2 hzero), flagParameter_eq_none.2 h]
  state _ _ _ h := by simp only [Request.BadStateFor, hn] at h
  conflict _ _ _ _ h := by omega

theorem refusedAs_of_plain {k : Nat} (hn : r.command.toNat = k) (hk : k = 1 ∨ k = 2 ∨ k = 12 ∨ k = 13) (effect : State → Answer) :
    r.RefusedAs s (plainCommand r s effect) := by
  obtain rfl | rfl | rfl | rfl := hk <;>
    exact refusedAs_plain (by simp only [Request.GoodTarget, hn]) (by simp only [Request.GoodParameters, hn])
      (fun x => by simp only [Request.BadStateFor, hn, not_false_eq_true]) (by omega) effect

/-- R150 to R152: every known command validates its requests in order. -/
theorem Request.refusedAs_answerTo (h : 1 ≤ r.command.toNat ∧ r.command.toNat ≤ 13) : r.RefusedAs s (r.answerTo s) := by
  unfold Request.answerTo
  split
  · next hn => exact refusedAs_of_plain hn (by decide) _
  · next hn => exact refusedAs_of_plain hn (by decide) _
  · next hn => exact refusedAs_writeSettings hn
  · next hn => exact refusedAs_readStream hn
  · next hn => exact refusedAs_writeStream hn
  · next hn => exact refusedAs_openStream hn
  · next hn => exact refusedAs_closeStream hn
  · next hn => exact refusedAs_flushStream hn
  · next hn => exact refusedAs_restartStream hn
  · next hn => exact refusedAs_readCounters hn
  · next hn => exact refusedAs_clearNote hn
  · next hn => exact refusedAs_of_plain hn (by decide) _
  · next hn => exact refusedAs_of_plain hn (by decide) _
  · next h1 h2 h3 h4 h5 h6 h7 h8 h9 h10 h11 h12 h13 =>
    simp only [imp_false] at h1 h2 h3 h4 h5 h6 h7 h8 h9 h10 h11 h12 h13
    omega

end

/-- Settles O46: the row that takes the request runs its effect step, whose validation is that of `Request.refusedAs_answerTo`. -/
theorem requestsAreRefusedInOrder : Obligations.RequestsAreRefusedInOrder := by
  intro c s r answered queued hexecuting htaken refused known
  have hstep {status : Status} {result : List Byte} (h : r.answerTo s = ⟨s, status, result⟩) :
      exec c s = .next (refused status result) := exec_answered hexecuting htaken h rfl rfl
  refine ⟨fun h => hstep (Request.answerTo_of_unknown h), fun h ht => ?_, fun h ht hp => ?_,
    fun t ht h hgood hp => ⟨fun hs => ?_, fun holder hopen hclosed hmapped => ?_⟩⟩
  · exact hstep ((Request.refusedAs_answerTo h).target ht)
  · exact hstep ((Request.refusedAs_answerTo h).parameters ht hp)
  · exact hstep ((Request.refusedAs_answerTo h).state t ht hp hs)
  · exact hstep ((Request.refusedAs_answerTo h).conflict t holder ht hp hopen hclosed hmapped)

/-! ### Reads (R154, R156 to R159) -/

section
variable {s : State} {r : Request} {t : Tag}

theorem plainCommand_accepted (ht : r.target = 0#8) (hp : r.parameters = []) (effect : State → Answer) :
    plainCommand r s effect = effect s := by
  rw [plainCommand, if_neg (not_not.2 ht), if_neg (not_not.2 hp)]

theorem PoolLevel.code_eq (l : PoolLevel) : l.code = if l = .low then 0x01#8 else 0x00#8 := by cases l <;> rfl

theorem FlowState.code_eq (f : FlowState) : f.code = if f = .paused then 0x01#8 else 0x00#8 := by cases f <;> rfl

theorem Carrier.code_eq (x : Carrier) : x.code = if x = .up then 0x02#8 else if x ≠ .down then 0x01#8 else 0x00#8 := by
  cases x <;> rfl

theorem pendingCode_pendingFlow (x : Stream) :
    pendingCode x.pendingFlow = if x.flow = x.sentFlow then 0x00#8 else if x.flow = .paused then 0x01#8 else 0x02#8 := by
  unfold Stream.pendingFlow
  split
  · rfl
  · cases x.flow <;> rfl

theorem StreamConfig.bytes_eq_block (c : StreamConfig) : c.bytes = c.block := by
  simp only [StreamConfig.bytes, numberBytes_eq]
  rfl

/-- R179: the identification. -/
theorem State.identification_eq (s : State) : s.identification =
    [0x5A#8, 0x02#8, 0x64#8, 0x01#8, 0x3F#8, 0x20#8, 0x00#8, 0x40#8, 0x08#8, 0x00#8, 0x08#8, 0x00#8, 0x04#8, 0x10#8,
      BitVec.ofNat 8 s.profile.val, flagCode s.autoopen] ++
    twoBytes s.pool.freeCells.length ++ twoBytes s.pool.freeRecords.length ++ [s.pool.level.code, s.carrier.code] := by
  unfold State.identification
  rw [numberBytes_eq s.pool.freeCells.length, numberBytes_eq s.pool.freeRecords.length]
  rfl

theorem Settings.bytes_eq_layout (x : Settings) : x.bytes = x.layout := by
  simp only [Settings.bytes, numberBytes_eq, fieldBytes_eq]
  rfl

/-- R180: the stream record. -/
theorem Stream.bytes_eq (x : Stream) : x.bytes =
    x.config.block ++ [x.state.code, flagCode x.closeRequested] ++ twoBytes x.head.toNat ++ twoBytes x.cursor.toNat ++
      twoBytes x.reach.toNat ++ twoBytes x.tail.toNat ++ twoBytes x.queue.length ++ twoBytes x.occupancy ++
      [flagCode x.held, x.flow.code, pendingCode x.pendingFlow, flagCode x.overrunReported] ++
      (x.timer.code :: twoBytes x.timer.remaining) ++ [BitVec.ofNat 8 x.budget] := by
  simp [Stream.bytes, numberBytes_eq, serialBytes_eq, StreamConfig.bytes_eq_block]

theorem PortCounters.bytes_eq (p : PortCounters) : p.bytes = fourBytes p.feedCheckErrors ++ fourBytes p.feedMalformed ++
    fourBytes p.drainCheckErrors ++ fourBytes p.drainMalformed ++ fourBytes p.drainStray ++ fourBytes p.noteStray ++
    fourBytes p.requestsLost := by
  simp only [PortCounters.bytes, counterBytes_eq]

theorem StreamCounters.bytes_eq (k : StreamCounters) : k.bytes = fourBytes k.admitted ++ fourBytes k.refusedState ++
    fourBytes k.refusedLimit ++ fourBytes k.refusedPool ++ fourBytes k.starts ++ fourBytes k.resends ++ fourBytes k.timeouts ++
    fourBytes k.peerReplays ++ fourBytes k.staleReturns := by
  simp only [StreamCounters.bytes, counterBytes_eq]

theorem answerReadStream_ok (ht : r.target.toNat = t.number) (hp : r.parameters = []) :
    answerReadStream r s = .ok s (s.stream t).bytes := by
  rw [answerReadStream, streamTarget_eq_some.2 ht]
  exact if_neg (not_not.2 hp)

theorem answerReadCounters_port (ht : r.target = 0#8) {clear : Bool} (hp : flagParameter? r.parameters = some clear) :
    answerReadCounters r s = .ok (if clear then { s with port := {} } else s) s.port.bytes := by
  rw [answerReadCounters, if_pos ht, hp]

theorem answerReadCounters_stream (ht : r.target.toNat = t.number) {clear : Bool} (hp : flagParameter? r.parameters = some clear) :
    answerReadCounters r s = .ok (if clear then s.countStream t (fun _ => {}) else s) (s.stream t).counters.bytes := by
  have hzero : r.target ≠ 0#8 := fun hzero => by
    rw [hzero] at ht
    exact absurd ht (by simp [Tag.number])
  rw [answerReadCounters, if_neg hzero, streamTarget_eq_some.2 ht]
  dsimp only
  rw [hp]

end

/-- Settles O47: each answer is the state as it stands, in the layout of its result. -/
theorem readsAnswerTheState : Obligations.ReadsAnswerTheState := by
  intro s r answered queued hexecuting ok flag
  have hstep {c : Instr} {result : List Byte} (htaken : r.TakenBy c) (h : r.answerTo s = .ok s result) :
      exec c s = .next (ok result) := exec_answered hexecuting htaken h rfl rfl
  refine ⟨fun hc hp ht => ?_, fun hc hp ht => ?_, fun t hc hp ht => ?_, fun clear hc hp => ⟨fun ht => ?_, fun t ht => ?_⟩⟩
  · have hanswer : r.answerTo s = .ok s s.identification :=
      (Request.answerTo_identify hc).trans (plainCommand_accepted ht hp _)
    rw [hstep (by rw [Request.TakenBy, hc]; rfl) hanswer, State.identification_eq, PoolLevel.code_eq, Carrier.code_eq]
    simp only [flag, flagCode, decide_eq_true_eq]
  · have hanswer : r.answerTo s = .ok s s.settings.bytes :=
      (Request.answerTo_readSettings hc).trans (plainCommand_accepted ht hp _)
    rw [hstep (by rw [Request.TakenBy, hc]; rfl) hanswer, Settings.bytes_eq_layout]
    rfl
  · intro x
    have hanswer : r.answerTo s = .ok s x.bytes :=
      (Request.answerTo_readStream hc).trans (answerReadStream_ok ht hp)
    refine (hstep (by rw [Request.TakenBy, hc]; rfl) hanswer).trans (congrArg (fun l => Host.Outcome.next (ok l)) ?_)
    rw [Stream.bytes_eq, FlowState.code_eq, pendingCode_pendingFlow]
    simp only [flag, flagCode, decide_eq_true_eq]
    cases x.state <;> cases x.timer <;> rfl
  · have hflag := flagParameter_eq_some.2 hp
    have hanswer : r.answerTo s = .ok (if clear then { s with port := {} } else s) s.port.bytes :=
      (Request.answerTo_readCounters hc).trans (answerReadCounters_port ht hflag)
    rw [exec_answered hexecuting (by rw [Request.TakenBy, hc]; rfl) hanswer (by cases clear <;> rfl) (by cases clear <;> rfl),
      PortCounters.bytes_eq]
    cases clear <;> rfl
  · have hflag := flagParameter_eq_some.2 hp
    have hanswer : r.answerTo s = .ok (if clear then s.countStream t (fun _ => {}) else s) (s.stream t).counters.bytes :=
      (Request.answerTo_readCounters hc).trans (answerReadCounters_stream ht hflag)
    rw [exec_answered hexecuting (by rw [Request.TakenBy, hc]; rfl) hanswer (by cases clear <;> rfl) (by cases clear <;> rfl),
      StreamCounters.bytes_eq]
    cases clear with
    | true => rfl
    | false => exact congrArg _ ((ok _).setStream_stream t).symm

/-! ### Records replaced (R22, R23, R99, R130, R155) -/

section
variable {s : State} {r : Request} {t : Tag}

theorem answerWriteSettings_ok (ht : r.target = 0#8) {x : Settings} (hx : x.Valid) (hp : r.parameters = x.layout) :
    answerWriteSettings r s = .ok { s with settings := x }.evaluatePool [{ s with settings := x }.evaluatePool.pool.level.code] := by
  rw [answerWriteSettings, if_neg (not_not.2 ht), settingsRecord_eq_some.2 ⟨hx, hp⟩]

theorem answerWriteStream_ok (ht : r.target.toNat = t.number) {c : StreamConfig} (hc : c.Valid) (hp : r.parameters = c.block)
    (hstate : (s.stream t).state = .closed ∨ c.drainTag = (s.stream t).config.drainTag) :
    answerWriteStream r s = .ok (s.writeConfig t c) [((s.writeConfig t c).stream t).flow.code] := by
  rw [answerWriteStream, streamTarget_eq_some.2 ht]
  dsimp only
  rw [configBlock_eq_some.2 ⟨hc, hp⟩]
  exact if_neg fun h => hstate.elim h.1 h.2

/-- R22, R23, R99, R130: everything that an accepted WRITE-STREAM writes. -/
theorem State.writeConfig_eq (s : State) (t : Tag) (c : StreamConfig) : s.writeConfig t c = s.setStream t { s.stream t with
    config := c, budget := min (s.stream t).budget c.replayBudget
    flow := if (s.stream t).state = .closed then (s.stream t).flow
      else (s.stream t).flow.evaluate (s.stream t).occupancy c.highWatermark c.lowWatermark } := by
  unfold State.writeConfig
  dsimp only
  split
  · rfl
  · rw [State.evaluateFlow, State.updateStream_updateStream]
    rfl

end

/-- Settles O48: the record is replaced, and the pool evaluated with it. -/
theorem writeSettingsReplacesTheRecord : Obligations.WriteSettingsReplacesTheRecord := by
  intro s r answered queued x hexecuting hc ht hx hp free after
  have hanswer := (Request.answerTo_writeSettings hc).trans (answerWriteSettings_ok (s := s) ht hx hp)
  have hwritten := State.evaluatePool_eq { s with settings := x }
  rw [exec_answered hexecuting (by rw [Request.TakenBy, hc]; rfl) hanswer (by rw [hwritten]) (by rw [hwritten]), hwritten,
    PoolLevel.code_eq]
  rfl

/-- Settles O49: the configuration is replaced, the budget clamped, and the flow state evaluated. -/
theorem writeStreamReplacesTheConfiguration : Obligations.WriteStreamReplacesTheConfiguration := by
  intro s r answered queued t c hexecuting hc ht hvalid hp x hstate flow
  have hanswer := (Request.answerTo_writeStream hc).trans (answerWriteStream_ok (s := s) ht hvalid hp hstate)
  have hbudget : min x.budget c.replayBudget = if c.replayBudget < x.budget then c.replayBudget else x.budget := by
    split <;> omega
  rw [exec_answered hexecuting (by rw [Request.TakenBy, hc]; rfl) hanswer (by rw [State.writeConfig_eq]; rfl)
    (by rw [State.writeConfig_eq]; rfl), FlowState.code_eq, State.writeConfig_eq, State.stream_setStream_self, hbudget]
  rfl

/-! ### CLEAR-NOTE (R143) -/

theorem answerClearNote_ok {s : State} {r : Request} (ht : r.target = 0#8) {back : Bool}
    (hp : flagParameter? r.parameters = some back) :
    answerClearNote r s =
      .ok { s with notes := if back then { s.notes with back := s.notes.back.clear }
                            else { s.notes with forward := s.notes.forward.clear } }
        (if back then [s.notes.back.code, s.notes.back.numberHeld] else [s.notes.forward.code, s.notes.forward.numberHeld]) := by
  rw [answerClearNote, if_neg (not_not.2 ht), hp]
  cases back <;> rfl

/-- Settles O53: the slot is cleared by its state. -/
theorem clearNoteClears : Obligations.ClearNoteClears := by
  intro s r answered queued back hexecuting hc ht hp slot cleared
  have hanswer := (Request.answerTo_clearNote hc).trans (answerClearNote_ok (s := s) ht (flagParameter_eq_some.2 hp))
  have hexec := exec_answered hexecuting (by rw [Request.TakenBy, hc]; rfl) hanswer rfl rfl
  have hstep : exec .clearNote s = .next (cleared slot.clear slot.code slot.numberHeld) := by
    rw [hexec]
    cases back <;> rfl
  refine ⟨fun h => ?_, fun n h => ?_, fun n mark h => ?_, fun n h => ?_⟩
  all_goals rw [hstep, h]; rfl

end Sys2Proof.Machine
end

section
/-!
CLOSE-STREAM and DISCARD-ALL (O51, O54): releases of every resident frame, on one stream and on all.
-/

namespace Sys2Proof.Machine

/-! ### CLOSE-STREAM (R19, R20) -/

section
variable {s : State} {r : Request} {t : Tag}

theorem answerCloseStream_drain (ht : r.target.toNat = t.number) (hp : r.parameters = [0x00#8]) :
    answerCloseStream r s = s.closeByDrain t := by
  rw [answerCloseStream, streamTarget_eq_some.2 ht, hp]
  rfl

theorem answerCloseStream_discard (ht : r.target.toNat = t.number) (hp : r.parameters = [0x01#8]) :
    answerCloseStream r s = s.closeByDiscard t := by
  rw [answerCloseStream, streamTarget_eq_some.2 ht, hp]
  rfl

theorem closeByDrain_empty (hstate : (s.stream t).state = .opened) (hqueue : (s.stream t).queue = []) :
    s.closeByDrain t = .ok (s.enterClosed t) (twoBytes (s.stream t).tail.toNat) := by
  rw [State.closeByDrain, hstate, ← serialBytes_eq]
  exact if_pos hqueue

theorem closeByDrain_resident (hstate : (s.stream t).state = .opened) (hqueue : (s.stream t).queue ≠ []) :
    s.closeByDrain t = ⟨s.updateStream t Stream.startDrain, .accepted, twoBytes (s.stream t).queue.length⟩ := by
  rw [State.closeByDrain, hstate, ← numberBytes_eq]
  exact if_neg hqueue

theorem closeByDiscard_ok (hstate : (s.stream t).state ≠ .closed) :
    s.closeByDiscard t = .ok (s.discardClose t) (twoBytes (s.stream t).tail.toNat) := by
  rw [State.closeByDiscard, ← serialBytes_eq]
  cases h : (s.stream t).state with
  | closed => exact absurd h hstate
  | opened => rfl
  | draining => rfl
  | halted => rfl

/-- R20: the stream as CLOSE-STREAM in DISCARD mode leaves it. -/
def Stream.discardClosed (x : Stream) : Stream :=
  { x with
    queue := [], occupancy := x.occupancy - cellsOf x.queue, head := x.tail, cursor := x.tail, reach := x.tail
    state := .closed, held := false, timer := .idle, closeRequested := false, flow := .go }

/-- R20, R82, R85: every resident frame of a stream released, and its pointers at the tail. -/
def State.emptied (s : State) (t : Tag) : State := (s.releaseAll t).updateStream t fun x => x.collapse x.tail

theorem State.emptied_released (s : State) (t : Tag) :
    Released s (s.emptied t) t (s.stream t).queue.length ((s.stream t).collapse (s.stream t).tail) :=
  s.released_emptied t (fun x => x.tail) fun _ _ _ _ => rfl

/-- R82, R85: the record of a stream whose frames are all released. -/
def Stream.emptied (x : Stream) : Stream :=
  { x with
    queue := [], occupancy := x.occupancy - cellsOf x.queue, head := x.tail, cursor := x.tail, reach := x.tail, timer := .idle }

theorem State.stream_emptied (s : State) (t : Tag) : (s.emptied t).stream t = (s.stream t).emptied := by
  rw [(s.emptied_released t).self, List.drop_length, List.take_length]
  rfl

theorem State.stream_emptied_ne {v : Tag} (h : v ≠ t) : (s.emptied t).stream v = s.stream v :=
  (s.emptied_released t).others v h

theorem State.emptied_releasedTo {u : State} (hp : u.pool.freeCells = (s.emptied t).pool.freeCells)
    (hr : u.pool.freeRecords = (s.emptied t).pool.freeRecords) (hd : u.drainTx = (s.emptied t).drainTx) :
    ReleasedTo s u (s.stream t).queue := by
  have h := (s.emptied_released t).releasedTo hp hr hd
  rwa [List.take_length] at h

theorem State.discardClose_eq (s : State) (t : Tag) :
    s.discardClose t = ((s.emptied t).enterClosed t).evaluatePoolFrom s.pool.freeCells.length := rfl

theorem State.stream_discardClose (s : State) (t v : Tag) :
    (s.discardClose t).stream v = if v = t then (s.stream t).discardClosed else s.stream v := by
  rw [State.discardClose_eq, State.stream_evaluatePoolFrom, State.stream_enterClosed, State.stream_emptied]
  split
  · rfl
  · next h => exact State.stream_emptied_ne h

theorem State.mapped_discardClose (s : State) (t : Tag) (d : DrainTag) :
    (s.discardClose t).mapped d = if d = (s.stream t).config.drainTag then none else s.mapped d := by
  rw [State.discardClose_eq, State.mapped_evaluatePoolFrom, State.mapped_enterClosed, State.stream_emptied,
    (s.emptied_released t).mapped]
  rfl

theorem State.discardClose_releasedTo (s : State) (t : Tag) : ReleasedTo s (s.discardClose t) (s.stream t).queue :=
  State.emptied_releasedTo (by simp [State.discardClose_eq]) (by simp [State.discardClose_eq]) (by simp [State.discardClose_eq])

theorem State.poolFollows_discardClose (s : State) (t : Tag) : PoolFollows s (s.discardClose t) s.events := by
  have h := poolFollows_evaluatePoolFrom (s := s) (m := (s.emptied t).enterClosed t)
    (by simp [(s.emptied_released t).settings]) (by simp [(s.emptied_released t).level])
  rw [State.enterClosed_events, (s.emptied_released t).events] at h
  exact h

theorem State.discardClose_frame (s : State) (t : Tag) : s.discardClose t = { s with
    streams := (s.discardClose t).streams, drainMap := (s.discardClose t).drainMap, pool := (s.discardClose t).pool
    drainTx := (s.discardClose t).drainTx, events := (s.discardClose t).events } := by
  have hclosed : s.discardClose t = { s.emptied t with
      streams := (s.discardClose t).streams, drainMap := (s.discardClose t).drainMap, pool := (s.discardClose t).pool
      drainTx := (s.discardClose t).drainTx, events := (s.discardClose t).events } := by
    apply State.ext <;> simp [State.discardClose_eq]
  generalize s.discardClose t = u at *
  rw [(s.emptied_released t).rest] at hclosed
  exact hclosed

end

/-- Settles O51. -/
theorem closeStreamDrainsOrDiscards : Obligations.CloseStreamDrainsOrDiscards := by
  intro s r answered queued t hexecuting hc ht x answer
  refine ⟨fun hp hstate hqueue => ?_, fun hp hstate hqueue => ?_, fun hp hstate => ?_⟩
  · have hanswer := (Request.answerTo_closeStream (s := s) hc).trans
      ((answerCloseStream_drain ht hp).trans (closeByDrain_empty hstate hqueue))
    exact exec_answered hexecuting (Request.takenBy_close_drain hc hp) hanswer rfl rfl
  · have hanswer := (Request.answerTo_closeStream (s := s) hc).trans
      ((answerCloseStream_drain ht hp).trans (closeByDrain_resident hstate hqueue))
    exact exec_answered hexecuting (Request.takenBy_close_drain hc hp) hanswer rfl rfl
  · have hanswer := (Request.answerTo_closeStream (s := s) hc).trans
      ((answerCloseStream_discard ht hp).trans (closeByDiscard_ok hstate))
    have hframe := s.discardClose_frame t
    refine ⟨_, exec_answered hexecuting (Request.takenBy_close_discard hc hp) hanswer (by rw [hframe]) (by rw [hframe]),
      (s.discardClose_releasedTo t).congr rfl rfl rfl, (s.stream_discardClose t t).trans (if_pos rfl),
      fun v hv => (s.stream_discardClose t v).trans (if_neg hv), (s.mapped_discardClose t _).trans (if_pos rfl),
      fun d hd => (s.mapped_discardClose t d).trans (if_neg hd), (s.poolFollows_discardClose t).congr rfl rfl, ?_⟩
    generalize s.discardClose t = u at *
    rw [hframe]

/-! ### DISCARD-ALL (R85, R86) -/

section
variable {s u v : State} {t : Tag}

/-- R85: the record of a stream after DISCARD-ALL. -/
def Stream.discarded (x : Stream) : Stream :=
  match x.state with
  | .closed => x
  | .opened => { x.emptied with flow := x.flowAt (x.occupancy - cellsOf x.queue) }
  | .draining => { x.emptied with state := .closed, held := false, closeRequested := false, flow := .go }
  | .halted =>
      { x.emptied with
        flow := x.flowAt (x.occupancy - cellsOf x.queue), state := .opened, budget := x.config.replayBudget }

theorem Stream.discarded_closed {x : Stream} (h : x.state = .closed) : x.discarded = x := by
  rw [Stream.discarded, h]

theorem Stream.discarded_opened {x : Stream} (h : x.state = .opened) :
    x.discarded = { x.emptied with flow := x.flowAt (x.occupancy - cellsOf x.queue) } := by
  rw [Stream.discarded, h]

theorem Stream.discarded_draining {x : Stream} (h : x.state = .draining) :
    x.discarded = { x.emptied with state := .closed, held := false, closeRequested := false, flow := .go } := by
  rw [Stream.discarded, h]

theorem Stream.discarded_halted {x : Stream} (h : x.state = .halted) :
    x.discarded = { x.emptied with
      flow := x.flowAt (x.occupancy - cellsOf x.queue), state := .opened, budget := x.config.replayBudget } := by
  rw [Stream.discarded, h]

/-- R85: the frames that DISCARD-ALL releases of a stream. -/
def Stream.discards (x : Stream) : List FrameRecord := if x.state = .closed then [] else x.queue

/-- R85: what DISCARD-ALL does to the streams of a list, before the pool's evaluation. -/
structure State.DiscardsAll (s u : State) (l : List Tag) : Prop where
  frame : u = { s with streams := u.streams, drainMap := u.drainMap, pool := u.pool, drainTx := u.drainTx, events := u.events }
  released : ReleasedTo s u (l.flatMap fun t => (s.stream t).discards)
  level : u.pool.level = s.pool.level
  streams : ∀ v, u.stream v = if v ∈ l then (s.stream v).discarded else s.stream v
  mapped : ∀ d, u.mapped d =
    if ∃ t ∈ l, (s.stream t).state = .draining ∧ (s.stream t).config.drainTag = d then none else s.mapped d
  events : u.events = (l.filter fun t => decide ((s.stream t).state = .draining)).foldl (fun b t =>
    s.settings.record b (closedRecord t (s.stream t) (s.stream t).tail 0x0003#16)) s.events

theorem State.discardsAll_nil (s : State) : s.DiscardsAll s [] where
  frame := rfl
  released := ⟨by simp, by simp, by simp⟩
  level := rfl
  streams := fun v => by simp
  mapped := fun d => by simp
  events := rfl

/-- R34: unmarking does not change which frame is in transmission. -/
theorem DrainTransmission.sends_unmark (tx : DrainTransmission) (n : Nat) : tx.unmark.sends n = tx.sends n := by
  cases tx <;> rfl

theorem DrainTransmission.unmark_unmark (tx : DrainTransmission) : tx.unmark.unmark = tx.unmark := by cases tx <;> rfl

theorem State.sending_of_unmarked {mark : Bool} (h : u.drainTx = if mark then s.drainTx.map DrainTransmission.unmark else s.drainTx)
    (n : Nat) : u.sending n = s.sending n := by
  unfold State.sending
  rw [h]
  cases mark with
  | false => rfl
  | true => cases s.drainTx <;> simp [DrainTransmission.sends_unmark]

theorem ReleasedTo.sending {gone : List FrameRecord} (h : ReleasedTo s u gone) (n : Nat) : u.sending n = s.sending n :=
  State.sending_of_unmarked h.2.2 n

/-- R33, R34: two releases one after the other are the release of both lists. -/
theorem ReleasedTo.trans {gone more : List FrameRecord} (h : ReleasedTo s u gone) (h' : ReleasedTo u v more) :
    ReleasedTo s v (gone ++ more) := by
  have hsending : (fun r : FrameRecord => u.sending r.number) = fun r => s.sending r.number := funext fun r => h.sending _
  obtain ⟨hcells, hrecords, htx⟩ := h
  obtain ⟨hcells', hrecords', htx'⟩ := h'
  have hnot : (fun r : FrameRecord => !u.sending r.number) = fun r => !s.sending r.number :=
    funext fun r => congrArg (!·) (congrFun hsending r)
  rw [hnot, hcells] at hcells'
  rw [hnot, hrecords] at hrecords'
  rw [hsending, htx] at htx'
  refine ⟨by simpa using hcells', by simpa using hrecords', ?_⟩
  rw [htx', List.any_append]
  cases gone.any fun r => s.sending r.number <;> cases more.any fun r => s.sending r.number <;>
    simp [Function.comp_def, DrainTransmission.unmark_unmark]

/-- R85: the streams of a list, and then one more. -/
theorem State.DiscardsAll.append {l : List Tag} (h : s.DiscardsAll u l) (ht : t ∉ l) (h' : u.DiscardsAll v [t]) :
    s.DiscardsAll v (l ++ [t]) := by
  have hstream : u.stream t = s.stream t := (h.streams t).trans (if_neg ht)
  have hsettings : u.settings = s.settings := by rw [h.frame]
  refine ⟨?_, ?_, h'.level.trans h.level, fun w => ?_, fun d => ?_, ?_⟩
  · have hframe := h'.frame
    rw [h.frame] at hframe
    exact hframe
  · have hreleased := h.released.trans h'.released
    rw [List.flatMap_append]
    simpa [hstream] using hreleased
  · rw [h'.streams w]
    simp only [List.mem_append, List.mem_singleton]
    by_cases hw : w = t
    · rw [if_pos hw, if_pos (.inr hw), hw, hstream]
    · simp only [hw, or_false, if_false, h.streams w]
  · rw [h'.mapped d, h.mapped d]
    simp only [List.mem_singleton, List.mem_append, or_and_right, exists_or, exists_eq_left, hstream]
    by_cases hd : (s.stream t).state = .draining ∧ (s.stream t).config.drainTag = d
    · rw [if_pos hd, if_pos (.inr hd)]
    · simp only [hd, or_false, if_false]
  · rw [h'.events, h.events, List.filter_append, List.foldl_append, hsettings]
    by_cases hd : (s.stream t).state = .draining <;> simp [hd, hstream]

theorem State.discardsAll_singleton
    (hframe : u = { s with
      streams := u.streams, drainMap := u.drainMap, pool := u.pool, drainTx := u.drainTx, events := u.events })
    (hreleased : ReleasedTo s u (s.stream t).discards) (hlevel : u.pool.level = s.pool.level)
    (hself : u.stream t = (s.stream t).discarded) (hothers : ∀ v, v ≠ t → u.stream v = s.stream v)
    (hmapped : ∀ d, u.mapped d =
      if (s.stream t).state = .draining ∧ (s.stream t).config.drainTag = d then none else s.mapped d)
    (hevents : u.events = if (s.stream t).state = .draining then
      s.settings.record s.events (closedRecord t (s.stream t) (s.stream t).tail 0x0003#16) else s.events) :
    s.DiscardsAll u [t] := by
  refine ⟨hframe, by simpa using hreleased, hlevel, fun v => ?_, fun d => by simpa using hmapped d, ?_⟩
  · by_cases hv : v = t
    · rw [if_pos (by simp [hv]), hv, hself]
    · rw [if_neg (by simp [hv]), hothers v hv]
  · rw [hevents]
    by_cases hd : (s.stream t).state = .draining <;> simp [hd]

theorem State.emptied_evaluateFlow_stream (s : State) (t : Tag) (h : (s.stream t).state ≠ .closed) :
    ((s.emptied t).evaluateFlowFrom t (s.stream t).occupancy).stream t =
      { (s.stream t).emptied with flow := (s.stream t).flowAt ((s.stream t).occupancy - cellsOf (s.stream t).queue) } := by
  rw [State.stream_evaluateFlowFrom, State.stream_emptied, Stream.flowAt_eq]
  by_cases hsame : (s.stream t).occupancy - cellsOf (s.stream t).queue = (s.stream t).occupancy
  · rw [if_pos hsame, if_neg (by simp [Stream.emptied, hsame])]
    rfl
  · rw [if_neg hsame, if_pos ⟨rfl, hsame, h⟩]
    rfl

/-- R85: the stream stays open with its pointers at the tail, and its flow state is evaluated. -/
theorem State.discardsAll_evaluated (hstate : (s.stream t).state ≠ .closed) (hdraining : (s.stream t).state ≠ .draining)
    {f : Stream → Stream} (hu : u = ((s.emptied t).updateStream t f).evaluateFlowFrom t (s.stream t).occupancy)
    (hself : u.stream t = (s.stream t).discarded) : s.DiscardsAll u [t] := by
  have hemptied := s.emptied_released t
  have hdiscards : (s.stream t).discards = (s.stream t).queue := if_neg hstate
  refine State.discardsAll_singleton ?_ ?_ ?_ hself (fun v hv => ?_) (fun d => ?_) ?_
  · have hframe : u = { s.emptied t with
        streams := u.streams, drainMap := u.drainMap, pool := u.pool, drainTx := u.drainTx, events := u.events } := by
      rw [hu]
      apply State.ext <;> simp
    rw [hemptied.rest] at hframe
    exact hframe
  · rw [hdiscards, hu]
    exact State.emptied_releasedTo (by simp) (by simp) (by simp)
  · rw [hu]
    simpa using hemptied.level
  · rw [hu, State.stream_evaluateFlowFrom_ne _ _ hv, State.stream_updateStream_ne _ _ hv, State.stream_emptied_ne hv]
  · rw [hu, State.mapped_evaluateFlowFrom, State.mapped_updateStream, hemptied.mapped, if_neg fun h => hdraining h.1]
  · rw [hu, if_neg hdraining]
    simpa using hemptied.events

theorem State.discardsAll_closed (hstate : (s.stream t).state = .draining) :
    s.DiscardsAll ((s.emptied t).closeDrained t .discarded) [t] := by
  have hemptied := s.emptied_released t
  have hdiscards : (s.stream t).discards = (s.stream t).queue := if_neg (by rw [hstate]; nofun)
  refine State.discardsAll_singleton ?_ ?_ ?_ ?_ (fun v hv => ?_) (fun d => ?_) ?_
  · have hframe : (s.emptied t).closeDrained t .discarded = { s.emptied t with
        streams := ((s.emptied t).closeDrained t .discarded).streams
        drainMap := ((s.emptied t).closeDrained t .discarded).drainMap
        pool := ((s.emptied t).closeDrained t .discarded).pool
        drainTx := ((s.emptied t).closeDrained t .discarded).drainTx
        events := ((s.emptied t).closeDrained t .discarded).events } := by
      apply State.ext <;> simp
    generalize (s.emptied t).closeDrained t .discarded = u at *
    rw [hemptied.rest] at hframe
    exact hframe
  · rw [hdiscards]
    exact State.emptied_releasedTo (by simp) (by simp) (by simp)
  · simpa using hemptied.level
  · rw [State.stream_closeDrained, if_pos rfl, State.stream_emptied, Stream.discarded_draining hstate]
    rfl
  · rw [State.stream_closeDrained, if_neg hv, State.stream_emptied_ne hv]
  · rw [State.mapped_closeDrained, State.stream_emptied, hemptied.mapped]
    simp only [hstate, true_and, Stream.emptied, eq_comm]
  · rw [State.closeDrained_events, hemptied.settings, hemptied.events, State.stream_emptied, if_pos hstate]
    rfl

/-- R85: one stream. -/
theorem State.discardsAll_discardStream (s : State) (t : Tag) : s.DiscardsAll (s.discardStream t) [t] := by
  cases hstate : (s.stream t).state with
  | closed =>
    have hstep : s.discardStream t = s := by rw [State.discardStream, hstate]
    rw [hstep]
    refine State.discardsAll_singleton rfl ?_ rfl ?_ (fun _ _ => rfl) (fun d => ?_) ?_
    · rw [Stream.discards, if_pos hstate]
      exact (State.discardsAll_nil s).released
    · rw [Stream.discarded_closed hstate]
    · rw [if_neg (by simp [hstate])]
    · rw [if_neg (by simp [hstate])]
  | opened =>
    have hstep : s.discardStream t = (s.emptied t).evaluateFlowFrom t (s.stream t).occupancy := by
      rw [State.discardStream, hstate]; rfl
    refine State.discardsAll_evaluated (f := id) (by rw [hstate]; nofun) (by rw [hstate]; nofun) ?_ ?_
    · rw [hstep, State.updateStream_eq, id, State.setStream_stream]
    · rw [hstep, State.emptied_evaluateFlow_stream s t (by rw [hstate]; nofun), Stream.discarded_opened hstate]
  | draining =>
    have hstep : s.discardStream t = (s.emptied t).closeDrained t .discarded := by
      rw [State.discardStream, hstate]; rfl
    rw [hstep]
    exact State.discardsAll_closed hstate
  | halted =>
    have hstep : s.discardStream t =
        ((s.emptied t).updateStream t Stream.reopen).evaluateFlowFrom t (s.stream t).occupancy := by
      rw [State.discardStream, hstate]; rfl
    refine State.discardsAll_evaluated (f := Stream.reopen) (by rw [hstate]; nofun) (by rw [hstate]; nofun) hstep ?_
    have hreopened : ((s.emptied t).updateStream t Stream.reopen).stream t = (s.stream t).emptied.reopen := by
      rw [State.stream_updateStream_self, State.stream_emptied]
    rw [hstep, State.stream_evaluateFlowFrom, hreopened, Stream.discarded_halted hstate, Stream.flowAt_eq]
    by_cases hsame : (s.stream t).occupancy - cellsOf (s.stream t).queue = (s.stream t).occupancy
    · rw [if_pos hsame, if_neg (by simp [Stream.reopen, Stream.emptied, hsame])]
      rfl
    · rw [if_neg hsame, if_pos ⟨rfl, hsame, nofun⟩]
      rfl

theorem State.discardsAll_foldl (s : State) (l : List Tag) (hl : l.Nodup) :
    s.DiscardsAll (l.foldl State.discardStream s) l := by
  induction l using List.reverseRecOn with
  | nil => exact s.discardsAll_nil
  | append_singleton l t ih =>
    obtain ⟨hnodup, -, hdisjoint⟩ := List.nodup_append.1 hl
    have ht : t ∉ l := fun h => hdisjoint t h t (by simp) rfl
    rw [List.foldl_append]
    exact (ih hnodup).append ht (State.discardsAll_discardStream _ t)

/-- R85: how many frames DISCARD-ALL releases. -/
theorem State.discardCount_eq (s : State) :
    s.discardCount = (allTags.flatMap fun t => (s.stream t).discards).length := by
  rw [State.discardCount, State.streams_toList, List.map_map, List.length_flatMap]
  refine congrArg List.sum (List.map_congr_left fun t _ => ?_)
  simp only [Function.comp_apply, Stream.discards]
  split <;> rfl

theorem flatMap_discards_eq (s : State) (l : List Tag) :
    (l.flatMap fun t => (s.stream t).discards) =
      (l.filter fun t => decide ((s.stream t).state ≠ .closed)).flatMap fun t => (s.stream t).queue := by
  induction l with
  | nil => rfl
  | cons t rest ih =>
    rw [List.flatMap_cons, ih]
    by_cases h : (s.stream t).state = .closed <;> simp [h, Stream.discards]

theorem answerDiscardAll_ok {r : Request} (ht : r.target = 0#8) (hp : r.parameters = []) :
    answerDiscardAll r s = .ok s.discardAllStreams (BitVec.ofNat 8 s.openCount :: twoBytes s.discardCount) := by
  rw [answerDiscardAll, plainCommand_accepted ht hp, numberBytes_eq]
  rfl

theorem State.openCount_eq (s : State) : s.openCount = allTags.countP fun t => decide ((s.stream t).state ≠ .closed) := by
  rw [State.openCount, State.countP_streams]
  congr 1
  funext t
  cases (s.stream t).state <;> rfl

end

/-- Settles O54: each stream in turn, and then one evaluation of the pool. -/
theorem discardAllEmptiesEveryStream : Obligations.DiscardAllEmptiesEveryStream := by
  intro s r answered queued hexecuting hc ht hp open? draining gone closed
  have hanswer := (Request.answerTo_discardAll (s := s) hc).trans (answerDiscardAll_ok ht hp)
  have hall := s.discardsAll_foldl allTags allTags_nodup
  have hgone : (allTags.flatMap fun t => (s.stream t).discards) = gone := flatMap_discards_eq s allTags
  have hdiscarded : s.discardAllStreams = (allTags.foldl State.discardStream s).evaluatePoolFrom s.pool.freeCells.length := rfl
  generalize allTags.foldl State.discardStream s = m at hall hdiscarded
  have hsettings : m.settings = s.settings := by rw [hall.frame]
  have hfollows := poolFollows_evaluatePoolFrom hsettings hall.level
  rw [hall.events] at hfollows
  have hstream : ∀ v, s.discardAllStreams.stream v = (s.stream v).discarded := fun v => by
    rw [hdiscarded, State.stream_evaluatePoolFrom, hall.streams, if_pos (mem_allTags v)]
  have hmapped : ∀ d, s.discardAllStreams.mapped d = m.mapped d := fun d => by
    rw [hdiscarded, State.mapped_evaluatePoolFrom]
  have hreleased : ReleasedTo s s.discardAllStreams gone := by
    rw [← hgone]
    exact hall.released.congr (by simp [hdiscarded]) (by simp [hdiscarded]) (by simp [hdiscarded])
  have hframe : s.discardAllStreams = { s with
      streams := s.discardAllStreams.streams, drainMap := s.discardAllStreams.drainMap, pool := s.discardAllStreams.pool
      drainTx := s.discardAllStreams.drainTx, events := s.discardAllStreams.events } := by
    have hm : s.discardAllStreams = { m with
        streams := s.discardAllStreams.streams, drainMap := s.discardAllStreams.drainMap, pool := s.discardAllStreams.pool
        drainTx := s.discardAllStreams.drainTx, events := s.discardAllStreams.events } := by
      rw [hdiscarded]
      apply State.ext <;> simp
    generalize s.discardAllStreams = u at *
    rw [hall.frame] at hm
    exact hm
  rw [← hdiscarded] at hfollows
  rw [State.discardCount_eq, hgone, State.openCount_eq] at hanswer
  clear hdiscarded
  generalize s.discardAllStreams = u at *
  refine ⟨_, exec_answered hexecuting (by rw [Request.TakenBy, hc]; rfl) hanswer (by rw [hframe]) (by rw [hframe]),
    hreleased.congr rfl rfl rfl, hfollows.congr rfl rfl, fun t => ⟨fun h => ?_, fun h => ?_, fun h => ?_, fun h => ?_⟩,
    fun d => (hmapped d).trans ((hall.mapped d).trans (if_congr (exists_congr fun t => and_iff_right (mem_allTags t)) rfl rfl)), ?_⟩
  · exact (hstream t).trans (Stream.discarded_closed h)
  · exact (hstream t).trans (Stream.discarded_opened h)
  · exact (hstream t).trans (Stream.discarded_draining h)
  · exact (hstream t).trans (Stream.discarded_halted h)
  · rw [hframe]

end Sys2Proof.Machine
end

section
/-!
The effects of good frames and of requests, case by case, and what every command leaves unchanged: the cell bytes that no frame stores,
the configurations, and the frames in transmission.
-/

namespace Sys2Proof.Machine

/-! ### What a good frame does in its block (R57, R122) -/

/-- R68 to R79, R118, R123, R137, R138: what a good frame of the drain link does. -/
inductive RoutedEffect : State → State → Prop where
  | ack {s : State} (v : Tag) (serial : Serial) (d : DrainTag) (hmapped : s.mapped d = some v)
      (htaken : (s.stream v).classifyAck serial = .taken) : RoutedEffect s (s.ackProgress v serial)
  | replay {s : State} (v : Tag) (serial : Serial) (d : DrainTag) (hmapped : s.mapped d = some v)
      (htaken : (s.stream v).classifyReplay serial = .taken) : RoutedEffect s (s.replayAccepted v serial)
  | stale {s : State} (v : Tag) : RoutedEffect s (s.staleReturn v)
  | ahead {s : State} (v : Tag) (kind : EventKind) (d : Byte) (serial : Serial) :
      RoutedEffect s (s.aheadReturn v kind d serial)
  | stray {s : State} (kind d : Byte) (sent : BitVec 16) : RoutedEffect s (s.strayReturn kind d sent)
  | holdAll {s : State} : RoutedEffect s (s.mapStreams fun x => if x.state = .closed then x else x.hold)
  | resumeAll {s : State} : RoutedEffect s (s.mapStreams fun x => if x.state = .closed then x else x.resume)
  | hold {s : State} (v : Tag) (d : DrainTag) (hmapped : s.mapped d = some v) : RoutedEffect s (s.updateStream v Stream.hold)
  | resume {s : State} (v : Tag) (d : DrainTag) (hmapped : s.mapped d = some v) : RoutedEffect s (s.updateStream v Stream.resume)
  | note {s : State} (n : Note) : RoutedEffect s (s.backNoteArrives n)
  | noteTaken {s : State} (number : Byte) : RoutedEffect s (s.forwardNoteTaken number)

section
variable {s t : State} {c : Instr}

theorem State.exists_mapped_of_streamOf {d : Byte} {v : Tag} (h : s.streamOf d = some v) : ∃ e, s.mapped e = some v := by
  unfold State.streamOf at h
  split at h
  · exact ⟨_, h⟩
  · cases h

theorem RoutedEffect.of_takeAck {v : Tag} {d : Byte} (h : s.streamOf d = some v) (serial : Serial) :
    RoutedEffect s (s.takeAck v d serial) := by
  obtain ⟨e, hmapped⟩ := State.exists_mapped_of_streamOf h
  unfold State.takeAck
  split
  · next htaken => exact .ack v serial e hmapped htaken
  · exact .stale v
  · exact .ahead v _ d serial

theorem RoutedEffect.of_takeReplay {v : Tag} {d : Byte} (h : s.streamOf d = some v) (serial : Serial) :
    RoutedEffect s (s.takeReplay v d serial) := by
  obtain ⟨e, hmapped⟩ := State.exists_mapped_of_streamOf h
  unfold State.takeReplay
  split
  · next htaken => exact .replay v serial e hmapped htaken
  · exact .stale v
  · exact .ahead v _ d serial

/-- R122: the block that a good frame is routed to takes one of these steps. -/
theorem RoutedEffect.of_routedFrame {frame : List Byte} {effect : State → State} (hc : routedFrame c = some (frame, effect))
    (s : State) : RoutedEffect s (effect s) := by
  cases c with
  | ack part x =>
    cases hc
    dsimp only
    split
    · next v hv => exact .of_takeAck hv _
    · exact .stray _ _ _
  | replay part x =>
    cases hc
    dsimp only
    split
    · next v hv => exact .of_takeReplay hv _
    · exact .stray _ _ _
  | hold frame =>
    cases hc
    dsimp only
    split
    · exact .holdAll
    · split
      · next v hv =>
        obtain ⟨e, hmapped⟩ := State.exists_mapped_of_streamOf hv
        exact .hold v e hmapped
      · exact .stray _ _ _
  | resume frame =>
    cases hc
    dsimp only
    split
    · exact .resumeAll
    · split
      · next v hv =>
        obtain ⟨e, hmapped⟩ := State.exists_mapped_of_streamOf hv
        exact .resume v e hmapped
      · exact .stray _ _ _
  | consumerNote part x => cases hc; exact .note _
  | consumerNoteTaken frame => cases hc; exact .noteTaken _
  | _ => cases hc

end

/-- R57: what a good staged frame of the feed link does. -/
inductive HandOnEffect : State → State → Prop where
  | request {s : State} (r : Request) : HandOnEffect s (s.requestArrives r)
  | note {s : State} (n : Note) : HandOnEffect s (s.forwardNoteArrives n)
  | noteTaken {s : State} (number : Byte) : HandOnEffect s (s.backNoteTaken number)

theorem HandOnEffect.of_stagedHandOn {c : Instr} {kind : Byte} {handOn : List Byte → State → State}
    (hc : stagedHandOn c = some (kind, handOn)) (payload : List Byte) (s : State) : HandOnEffect s (handOn payload s) := by
  cases c with
  | requestArrival symbols => cases hc; exact .request _
  | producerNote symbols => cases hc; exact .note _
  | producerNoteTaken symbols => cases hc; exact .noteTaken _
  | _ => cases hc

/-! ### What a request does (R10 to R23, R82 to R86, R143, R155, R159, R160) -/

/-- What the effect step of a request does, before its RESPONSE. -/
inductive RequestEffect : Instr → State → State → Prop where
  | none {s : State} {c : Instr} : RequestEffect c s s
  | settings {s : State} (x : Settings) (hx : settingsInRange x = true) :
      RequestEffect .writeSettings s ({ s with settings := x } : State).evaluatePool
  | config {s : State} (v : Tag) (k : StreamConfig) (hk : k.inRange = true)
      (hstate : (s.stream v).state = .closed ∨ k.drainTag = (s.stream v).config.drainTag) :
      RequestEffect .writeStream s (s.writeConfig v k)
  | opens {s : State} (v : Tag) (serial : Serial) (hstate : (s.stream v).state = .closed)
      (hfree : s.mapped (s.stream v).config.drainTag = .none) : RequestEffect .openStream s (s.openAt v serial)
  | closes {s : State} {c : Instr} (hc : c = .closeStreamDrain ∨ c = .closeStreamDiscard) (v : Tag)
      (hstate : (s.stream v).state = .opened) (hqueue : (s.stream v).queue = []) : RequestEffect c s (s.enterClosed v)
  | drains {s : State} {c : Instr} (hc : c = .closeStreamDrain ∨ c = .closeStreamDiscard) (v : Tag)
      (hstate : (s.stream v).state = .opened) (hqueue : (s.stream v).queue ≠ []) :
      RequestEffect c s (s.updateStream v Stream.startDrain)
  | discards {s : State} {c : Instr} (hc : c = .closeStreamDrain ∨ c = .closeStreamDiscard) (v : Tag)
      (hstate : (s.stream v).state ≠ .closed) : RequestEffect c s (s.discardClose v)
  | flush {s : State} (v : Tag) (serial : Serial) (hstate : (s.stream v).state ≠ .closed) :
      RequestEffect .flushStream s (s.flush v serial)
  | restart {s : State} (v : Tag) (hstate : (s.stream v).state = .halted) :
      RequestEffect .restartStream s (s.updateStream v Stream.restart)
  | clearPort {s : State} : RequestEffect .readCounters s { s with port := {} }
  | clearStream {s : State} (v : Tag) : RequestEffect .readCounters s (s.countStream v fun _ => {})
  | clearForward {s : State} :
      RequestEffect .clearNote s { s with notes := { s.notes with forward := s.notes.forward.clear } }
  | clearBack {s : State} : RequestEffect .clearNote s { s with notes := { s.notes with back := s.notes.back.clear } }
  | discardAll {s : State} : RequestEffect .discardAll s s.discardAllStreams
  | reset {s : State} : RequestEffect .resetDevice s { s with resetPending := true }

section
variable {s : State} {c : Instr}

theorem RequestEffect.of_plain (r : Request) {effect : State → Answer} (h : RequestEffect c s (effect s).state) :
    RequestEffect c s (plainCommand r s effect).state := by
  unfold plainCommand
  split
  · exact .none
  · split
    · exact .none
    · exact h

theorem RequestEffect.of_closeStream (hc : c = .closeStreamDrain ∨ c = .closeStreamDiscard) (r : Request) :
    RequestEffect c s (answerCloseStream r s).state := by
  unfold answerCloseStream
  split
  · exact .none
  · next v _ =>
    split
    · exact .none
    · by_cases hstate : (s.stream v).state = .opened
      · by_cases hqueue : (s.stream v).queue = []
        · rw [closeByDrain_empty hstate hqueue]
          exact .closes hc v hstate hqueue
        · rw [closeByDrain_resident hstate hqueue]
          exact .drains hc v hstate hqueue
      · rw [closeByDrain_of_not_opened hstate]
        exact .none
    · by_cases hstate : (s.stream v).state = .closed
      · rw [closeByDiscard_of_closed hstate]
        exact .none
      · rw [closeByDiscard_ok hstate]
        exact .discards hc v hstate

/-- R147: the effect of a request is one of these. -/
theorem RequestEffect.of_requestEffect {effect : Request → State → Answer} (hc : requestEffect c = some effect) (r : Request)
    (s : State) : RequestEffect c s (effect r s).state := by
  cases c with
  | identify => cases hc; exact .of_plain r .none
  | readSettings => cases hc; exact .of_plain r .none
  | writeSettings =>
    cases hc
    unfold answerWriteSettings
    split
    · exact .none
    · split
      · exact .none
      · next x hx => exact .settings x ((settingsInRange_iff x).2 (settingsRecord_eq_some.1 hx).1)
  | readStream =>
    cases hc
    unfold answerReadStream
    split
    · exact .none
    · split <;> exact .none
  | writeStream =>
    cases hc
    unfold answerWriteStream
    split
    · exact .none
    · split
      · exact .none
      · next k hk =>
        split
        · exact .none
        · next hstate =>
          refine .config _ k ((StreamConfig.inRange_iff k).2 (configBlock_eq_some.1 hk).1) ?_
          exact (not_and_or.1 hstate).imp not_not.1 not_not.1
  | openStream =>
    cases hc
    unfold answerOpenStream
    split
    · exact .none
    · split
      · exact .none
      · split
        · exact .none
        · next hstate =>
          split
          · exact .none
          · next hfree => exact .opens _ _ (not_not.1 hstate) hfree
  | closeStreamDrain => cases hc; exact .of_closeStream (.inl rfl) r
  | closeStreamDiscard => cases hc; exact .of_closeStream (.inr rfl) r
  | flushStream =>
    cases hc
    unfold answerFlushStream
    split
    · exact .none
    · split
      · exact .none
      · split
        · exact .none
        · next hstate => exact .flush _ _ hstate
  | restartStream =>
    cases hc
    unfold answerRestartStream
    split
    · exact .none
    · split
      · exact .none
      · split
        · exact .none
        · next hstate => exact .restart _ (not_not.1 hstate)
  | readCounters =>
    cases hc
    unfold answerReadCounters
    split
    · split
      · exact .none
      · next clear _ => cases clear <;> [exact .none; exact .clearPort]
    · split
      · exact .none
      · split
        · exact .none
        · next clear _ => cases clear <;> [exact .none; exact .clearStream _]
  | clearNote =>
    cases hc
    unfold answerClearNote
    split
    · exact .none
    · split
      · exact .none
      · exact .clearForward
      · exact .clearBack
  | discardAll =>
    cases hc
    refine .of_plain r ?_
    dsimp only [Answer.ok]
    exact .discardAll
  | resetDevice => cases hc; exact .of_plain r .reset
  | unknownCommand => cases hc; exact .none
  | _ => cases hc

end

end Sys2Proof.Machine
end

section
/-!
What every command leaves unchanged, block by block: the cell bytes, the configurations, the settings, and what is in transmission on
the feed link.
-/

namespace Sys2Proof.Machine

/-- What only its owner changes: the cell bytes, the sampled straps, the settings, the frame in transmission on the feed link and the
configurations of the streams. -/
def State.kept (s : State) : Memory × Fin 4 × Bool × Settings × Option FeedFrame × (Tag → StreamConfig) :=
  (s.cells, s.profile, s.autoopen, s.settings, s.feedTx, fun v => (s.stream v).config)

section
variable {s t : State}

theorem State.kept_eq_iff : t.kept = s.kept ↔ t.cells = s.cells ∧ t.profile = s.profile ∧ t.autoopen = s.autoopen ∧
    t.settings = s.settings ∧ t.feedTx = s.feedTx ∧ ∀ v, (t.stream v).config = (s.stream v).config := by
  simp only [State.kept, Prod.mk.injEq, funext_iff]

end

variable (s : State)

/-! ### The shared operations -/

theorem State.kept_setStream {v : Tag} {x : Stream} (h : x.config = (s.stream v).config) : (s.setStream v x).kept = s.kept := by
  simp only [State.kept_eq_iff, State.setStream_cells, State.setStream_profile, State.setStream_autoopen,
    State.setStream_settings, State.setStream_feedTx, true_and, State.stream_setStream]
  intro w
  split
  · next hw => rw [hw, h]
  · rfl

theorem State.kept_updateStream {v : Tag} {f : Stream → Stream} (h : (f (s.stream v)).config = (s.stream v).config) :
    (s.updateStream v f).kept = s.kept := s.kept_setStream h

theorem State.kept_mapStreams {f : Stream → Stream} (h : ∀ x, (f x).config = x.config) : (s.mapStreams f).kept = s.kept := by
  simp [State.kept_eq_iff, h]

@[simp] theorem State.kept_raise (e : EventRecord) : (s.raise e).kept = s.kept := by simp [State.kept_eq_iff]
@[simp] theorem State.kept_evaluatePoolFrom (n : Nat) : (s.evaluatePoolFrom n).kept = s.kept := by simp [State.kept_eq_iff]
@[simp] theorem State.kept_countStream (v : Tag) (f : StreamCounters → StreamCounters) : (s.countStream v f).kept = s.kept :=
  s.kept_updateStream rfl
@[simp] theorem State.kept_evaluateFlow (v : Tag) : (s.evaluateFlow v).kept = s.kept := s.kept_updateStream rfl
@[simp] theorem State.kept_evaluateFlowFrom (v : Tag) (n : Nat) : (s.evaluateFlowFrom v n).kept = s.kept := by
  unfold State.evaluateFlowFrom
  split
  · rfl
  · exact s.kept_evaluateFlow v
@[simp] theorem State.kept_setMapped (d : DrainTag) (e : Option Tag) : (s.setMapped d e).kept = s.kept := rfl
@[simp] theorem State.kept_handBack (gone : List FrameRecord) : (s.handBack gone).kept = s.kept := rfl
@[simp] theorem State.kept_release (v : Tag) (k : Nat) : (s.release v k).kept = s.kept :=
  (State.kept_handBack _ _).trans (s.kept_updateStream rfl)
@[simp] theorem State.kept_enterClosed (v : Tag) : (s.enterClosed v).kept = s.kept := s.kept_updateStream rfl
@[simp] theorem State.kept_closeDrained (v : Tag) (o : CloseOutcome) : (s.closeDrained v o).kept = s.kept :=
  (State.kept_raise _ _).trans (s.kept_enterClosed v)
@[simp] theorem State.kept_closeIfDrained (v : Tag) (o : CloseOutcome) : (s.closeIfDrained v o).kept = s.kept := by
  unfold State.closeIfDrained
  split
  · exact s.kept_closeDrained v o
  · rfl
@[simp] theorem State.kept_finishRelease (v : Tag) (o : CloseOutcome) (occupancy free : Nat) :
    (s.finishRelease v o occupancy free).kept = s.kept := by
  simp only [State.finishRelease, State.kept_evaluatePoolFrom, State.kept_evaluateFlowFrom, State.kept_closeIfDrained]
@[simp] theorem State.kept_halt (v : Tag) (cause : HaltCause) : (s.halt v cause).kept = s.kept :=
  (State.kept_raise _ _).trans (s.kept_updateStream rfl)
@[simp] theorem State.kept_setFeedRx (r : FeedReceiver) : (s.setFeedRx r).kept = s.kept := rfl
@[simp] theorem State.kept_setDrainRx (r : DrainReceiver) : (s.setDrainRx r).kept = s.kept := rfl
@[simp] theorem State.kept_setAtTick (b : Bool) : (s.setAtTick b).kept = s.kept := rfl
@[simp] theorem State.kept_countFeedMalformed : s.countFeedMalformed.kept = s.kept := rfl
@[simp] theorem State.kept_countDrainMalformed : s.countDrainMalformed.kept = s.kept := rfl
@[simp] theorem State.kept_countDrainCheckError : s.countDrainCheckError.kept = s.kept := rfl
@[simp] theorem State.kept_returnReservation (r : FrameRecord) : (s.returnReservation r).kept = s.kept := by
  unfold State.returnReservation
  dsimp only
  rw [State.kept_evaluatePoolFrom, State.kept_evaluateFlowFrom, State.kept_updateStream]
  · rfl
  · rfl
@[simp] theorem State.kept_deferredReturn (r : FrameRecord) : (s.deferredReturn r).kept = s.kept :=
  State.kept_evaluatePoolFrom _ _

/-! ### The clock, the carrier and the arbiters -/

@[simp] theorem State.kept_expire (v : Tag) : (s.expire v).kept = s.kept := by
  unfold State.expire
  dsimp only
  split
  · rw [State.kept_raise, State.kept_setStream, State.kept_countStream]
    rfl
  · rw [State.kept_halt, State.kept_countStream]

@[simp] theorem State.kept_expireDue : s.expireDue.kept = s.kept := by
  unfold State.expireDue
  generalize allTags.filter _ = l
  induction l generalizing s with
  | nil => rfl
  | cons v rest ih => exact (ih _).trans (s.kept_expire v)

theorem Stream.restore_config (x : Stream) : x.restore.config = x.config := by
  unfold Stream.restore
  split <;> rfl

@[simp] theorem State.kept_carrierUp : s.carrierUp.kept = s.kept := by
  refine State.kept_eq_iff.2 ⟨?_, ?_, ?_, ?_, ?_, fun v => by rw [State.stream_carrierUp, Stream.restore_config]⟩
  all_goals rw [State.carrierUp_eq]

@[simp] theorem State.kept_finishSettling : s.finishSettling.kept = s.kept := by
  unfold State.finishSettling
  split
  · exact s.kept_carrierUp
  · rfl

@[simp] theorem State.kept_takeTick : s.takeTick.kept = s.kept := by
  rw [State.takeTick, State.kept_finishSettling, State.kept_expireDue]

@[simp] theorem State.kept_carrierLoss : s.carrierLoss.kept = s.kept := by
  refine State.kept_eq_iff.2 ⟨?_, ?_, ?_, ?_, ?_, fun v => by rw [State.stream_carrierLoss]; rfl⟩
  all_goals rw [State.carrierLoss_frame]

@[simp] theorem State.kept_followCarrier : s.followCarrier.kept = s.kept := by
  unfold State.followCarrier
  split
  case h_8 => exact s.kept_carrierLoss
  all_goals rfl

@[simp] theorem State.kept_setCarrierPin (present : Bool) : (s.setCarrierPin present).kept = s.kept := by
  unfold State.setCarrierPin
  dsimp only
  split
  · exact State.kept_followCarrier _
  · rfl

theorem State.kept_startData (k : DataChoice) (r : FrameRecord) : (s.startData k r).kept = s.kept :=
  State.kept_setStream { s with
    drainTx := some (.data r true (s.stream k.stream).config.drainTag (s.stream k.stream).cursor)
    credits := k.credits.spend k.streamClass, positions := s.positions.serve k.streamClass k.stream } rfl

@[simp] theorem State.kept_decideDrain : s.decideDrain.kept = s.kept := by
  unfold State.decideDrain
  split
  case h_4 =>
    split
    · exact s.kept_startData _ _
    · rfl
  all_goals rfl

@[simp] theorem State.kept_lowerCounts : s.lowerCounts.kept = s.kept := State.kept_mapStreams _ fun _ => rfl

@[simp] theorem State.kept_tick : s.tick.kept = s.kept := by
  rw [State.tick, State.kept_setAtTick, State.kept_lowerCounts]

/-- R171: an arbiter's start on the feed link changes nothing else of these. -/
theorem State.kept_startFeed (k : FeedChoice) : (s.startFeed k).kept = ({ s with feedTx := (s.startFeed k).feedTx } : State).kept := by
  have hframe := State.startFeed_frame (s := s) k
  have hstream := State.stream_startFeed (s := s) k
  generalize s.startFeed k = u at *
  refine State.kept_eq_iff.2 ⟨?_, ?_, ?_, ?_, rfl, fun v => ?_⟩
  case refine_5 =>
    obtain ⟨f, hf⟩ := hstream v
    rw [hf]
    rfl
  all_goals rw [hframe]

theorem State.kept_decideFeed : s.decideFeed.kept = ({ s with feedTx := s.decideFeed.feedTx } : State).kept := by
  unfold State.decideFeed
  split
  · exact s.kept_startFeed _
  · rfl

theorem State.kept_of_feedTx {s t : State} (h : t.kept = s.kept) (f : Option FeedFrame) :
    ({ t with feedTx := f } : State).kept = ({ s with feedTx := f } : State).kept := by
  obtain ⟨hcells, hprofile, hautoopen, hsettings, -, hconfig⟩ := State.kept_eq_iff.1 h
  exact State.kept_eq_iff.2 ⟨hcells, hprofile, hautoopen, hsettings, rfl, hconfig⟩

theorem State.kept_settle : s.settle.kept = ({ s with feedTx := s.settle.feedTx } : State).kept := by
  cases hphase : s.phase with
  | inReset => rw [State.settle_inReset hphase]; rfl
  | running =>
    rw [State.settle_running hphase, State.kept_setAtTick, State.kept_decideFeed]
    exact State.kept_of_feedTx (by rw [State.kept_decideDrain, State.kept_takeTick]) _

theorem State.kept_found : s.found.kept = ({ s with feedTx := s.found.feedTx } : State).kept := by
  obtain ⟨hphase, hfound⟩ | ⟨hphase, htick, hfound⟩ | ⟨hphase, htick, hfound⟩ := s.found_cases
  · rw [hfound]
  · rw [hfound]
    exact State.kept_of_feedTx s.kept_takeTick _
  · rw [hfound]
    exact s.kept_settle

/-! ### The links -/

@[simp] theorem State.kept_engineTake : s.engineTake.kept = s.kept := by
  unfold State.engineTake
  split <;> rfl

theorem HandOnEffect.kept {s t : State} (h : HandOnEffect s t) : t.kept = s.kept := by
  cases h with
  | request r =>
    unfold State.requestArrives
    split
    · exact State.kept_engineTake _
    · exact State.kept_raise _ _
  | note n =>
    unfold State.forwardNoteArrives
    split <;> rfl
  | noteTaken number =>
    unfold State.backNoteTaken
    split <;> rfl

theorem Stream.pullCursor_config (x : Stream) (oldHead : Serial) : (x.pullCursor oldHead).config = x.config := by
  rw [Stream.pullCursor_eq]

theorem Stream.acknowledge_config (y : Stream) (oldHead serial : Serial) : (y.acknowledge oldHead serial).config = y.config := by
  unfold Stream.acknowledge
  dsimp only
  split
  · exact Stream.pullCursor_config _ _
  · exact Stream.pullCursor_config _ _

@[simp] theorem State.kept_ackProgress (v : Tag) (serial : Serial) : (s.ackProgress v serial).kept = s.kept := by
  rw [State.ackProgress_eq, State.kept_finishRelease, State.kept_updateStream, State.kept_release]
  exact Stream.acknowledge_config _ _ _

theorem Stream.replay_config (y : Stream) (serial : Serial) : (y.replay serial).config = y.config := by
  unfold Stream.replay
  dsimp only
  split <;> rfl

@[simp] theorem State.kept_replayAtHead (v : Tag) (serial : Serial) : (s.replayAtHead v serial).kept = s.kept := by
  unfold State.replayAtHead
  dsimp only
  split
  · split
    · exact s.kept_setStream rfl
    · rfl
  · split
    · split
      · exact s.kept_setStream rfl
      · exact s.kept_halt v _
    · exact s.kept_setStream rfl

@[simp] theorem State.kept_replayAccepted (v : Tag) (serial : Serial) : (s.replayAccepted v serial).kept = s.kept := by
  by_cases h : Serial.distance (s.stream v).head serial = 0
  · unfold State.replayAccepted
    dsimp only
    rw [if_pos h, State.kept_replayAtHead, State.kept_countStream]
  · rw [State.replayAccepted_eq s v serial h, State.kept_finishRelease, State.kept_updateStream, State.kept_release]
    exact Stream.replay_config _ _

theorem Stream.hold_config (x : Stream) : x.hold.config = x.config := by
  unfold Stream.hold
  split <;> rfl

theorem Stream.resume_config (x : Stream) : x.resume.config = x.config := by
  unfold Stream.resume
  split <;> rfl

theorem RoutedEffect.kept {s t : State} (h : RoutedEffect s t) : t.kept = s.kept := by
  cases h with
  | ack v serial d hmapped htaken => exact s.kept_ackProgress v serial
  | replay v serial d hmapped htaken => exact s.kept_replayAccepted v serial
  | stale v => exact s.kept_countStream v _
  | ahead v kind d serial => exact s.kept_raise _
  | stray kind d sent => exact State.kept_raise _ _
  | holdAll => exact s.kept_mapStreams fun x => by split <;> [rfl; exact x.hold_config]
  | resumeAll => exact s.kept_mapStreams fun x => by split <;> [rfl; exact x.resume_config]
  | hold v d hmapped => exact s.kept_updateStream (Stream.hold_config _)
  | resume v d hmapped => exact s.kept_updateStream (Stream.resume_config _)
  | note n =>
    unfold State.backNoteArrives
    split <;> rfl
  | noteTaken number =>
    unfold State.forwardNoteTaken
    split <;> rfl

@[simp] theorem State.kept_receive (opens : Bool) (symbols : List LaneSymbol) : (s.receive opens symbols).kept = s.kept := by
  rw [State.receive_frame]
  rfl

@[simp] theorem State.kept_returnStarts : s.returnStarts.kept = s.kept := by
  rw [State.returnStarts_eq]
  rfl

theorem ReturnEffect.kept {s t : State} {c : Instr} (h : ReturnEffect c s t) : t.kept = s.kept := by
  cases h with
  | held hc opens symbols => exact s.kept_receive opens symbols
  | restarted hc opens symbols => rw [State.kept_returnStarts, State.kept_receive]
  | ended hc opens symbols => rw [State.kept_setDrainRx, State.kept_receive]
  | malformed hc opens symbols => rw [State.kept_countDrainMalformed, State.kept_setDrainRx, State.kept_receive]
  | checkError hc opens symbols => rw [State.kept_countDrainCheckError, State.kept_setDrainRx, State.kept_receive]
  | routed hc opens symbols hrx hgood =>
    rw [(RoutedEffect.of_routedFrame hc _).kept, State.kept_setDrainRx, State.kept_receive]

/-! ### The feed receiver, but for the bytes that it stores -/

theorem State.kept_reserve {v : Tag} {length : Nat} {record : FrameRecord} {u : State}
    (h : s.reserve v length = some (record, u)) : u.kept = s.kept := by
  unfold State.reserve at h
  split at h
  · cases h
  · cases h
    rw [State.kept_evaluatePoolFrom, State.kept_evaluateFlowFrom, State.kept_updateStream]
    · rfl
    · rfl

@[simp] theorem State.kept_refuseLimit (v : Tag) : (s.refuseLimit v).kept = s.kept := by
  unfold State.refuseLimit
  dsimp only
  split
  · exact s.kept_countStream v _
  · rw [State.kept_raise, State.kept_updateStream, State.kept_countStream]
    rfl

/-- Storing payload changes the cell bytes alone. -/
theorem State.kept_storeBytes (r : FrameRecord) (payload : List Byte) : (s.storeBytes r payload).kept.2 = s.kept.2 := rfl

theorem State.kept_endData (r : FrameRecord) (verdict : FrameVerdict) : (s.endData r verdict).kept = s.kept := by
  cases verdict with
  | countMismatch => exact s.kept_returnReservation r
  | checkMismatch => exact s.kept_returnReservation r
  | good =>
    show State.kept (if _ then _ else _) = _
    split
    · exact s.kept_updateStream rfl
    · rw [State.kept_countStream, State.kept_returnReservation]

theorem State.kept_takeData (v : Tag) (length : Nat) (body : List Byte) (running : CheckWord) (damaged : Bool) :
    (s.takeData v length body running damaged).kept.2 = s.kept.2 := by
  unfold State.takeData
  split
  · rw [State.kept_setFeedRx, State.kept_countStream]
  · rw [State.kept_setFeedRx, State.kept_refuseLimit]
  · rw [State.kept_setFeedRx, State.kept_countStream]
  · unfold State.beginStoring
    split
    · next record u hreserve => rw [State.kept_setFeedRx, State.kept_storeBytes, s.kept_reserve hreserve]
    · rfl

theorem State.kept_takeHeader (bytes : List Byte) (damaged : Bool) : (s.takeHeader bytes damaged).kept.2 = s.kept.2 := by
  unfold State.takeHeader
  split
  · rfl
  · dsimp only
    split
    · rfl
    · exact s.kept_takeData _ _ _ _ _
    · rfl

theorem FeedEffect.kept {s t : State} {c : Instr} (h : FeedEffect c s t) : t.kept.2 = s.kept.2 := by
  cases h with
  | header hbytes => exact State.kept_takeHeader _ _ _
  | dataEnd hrx verdict => rw [State.kept_setFeedRx, State.kept_endData]; rfl
  | cutHeader marker hbytes => rfl
  | cutStoring hrx =>
    rw [State.kept_setFeedRx, State.kept_countFeedMalformed, State.kept_returnReservation]
    rfl
  | cutStaging hrx => rfl
  | cutSkipping hrx => rfl
  | ignored hrx => rfl
  | skipped hrx => rfl
  | stagedMalformed hrx hc drawn => rfl
  | stagedCheckError hrx hc drawn => rfl
  | stagedGood hrx hc hlength drawn => rw [(HandOnEffect.of_stagedHandOn hc _ _).kept]; rfl

/-! ### Requests -/

@[simp] theorem State.kept_emptied (v : Tag) : (s.emptied v).kept = s.kept := by
  rw [State.emptied, State.kept_updateStream, State.releaseAll, State.kept_release]
  rfl

@[simp] theorem State.kept_discardStream (v : Tag) : (s.discardStream v).kept = s.kept := by
  have hframe := (s.discardsAll_discardStream v).frame
  refine State.kept_eq_iff.2 ⟨?_, ?_, ?_, ?_, ?_, fun w => ?_⟩
  case refine_6 =>
    rw [(s.discardsAll_discardStream v).streams w]
    split
    · unfold Stream.discarded
      split <;> rfl
    · rfl
  all_goals rw [hframe]

@[simp] theorem State.kept_discardAllStreams : s.discardAllStreams.kept = s.kept := by
  rw [State.discardAllStreams, State.kept_evaluatePoolFrom]
  generalize allTags = l
  induction l generalizing s with
  | nil => rfl
  | cons v rest ih => exact (ih _).trans (s.kept_discardStream v)

theorem State.kept_openAt (v : Tag) (serial : Serial) : (s.openAt v serial).kept = s.kept := by
  rw [State.openAt_eq, State.kept_setMapped, State.kept_setStream]
  rfl

theorem RequestEffect.kept {s t : State} {c : Instr} (h : RequestEffect c s t) (hsettings : c ≠ .writeSettings)
    (hconfig : c ≠ .writeStream) : t.kept = s.kept := by
  cases h with
  | none => rfl
  | settings x hx => exact absurd rfl hsettings
  | config v k hk hstate => exact absurd rfl hconfig
  | opens v serial hstate hfree => exact s.kept_openAt v serial
  | closes hc v hstate hqueue => exact s.kept_enterClosed v
  | drains hc v hstate hqueue => exact s.kept_updateStream rfl
  | discards hc v hstate => rw [State.discardClose_eq, State.kept_evaluatePoolFrom, State.kept_enterClosed, State.kept_emptied]
  | flush v serial hstate =>
    rw [State.flush_eq, State.kept_finishRelease, State.kept_updateStream, State.releaseAll, State.kept_release]
    rfl
  | restart v hstate => exact s.kept_updateStream rfl
  | clearPort => rfl
  | clearStream v => exact s.kept_countStream v _
  | clearForward => rfl
  | clearBack => rfl
  | discardAll => exact s.kept_discardAllStreams
  | reset => rfl

@[simp] theorem State.kept_answer (r : Request) (status : Status) (result : List Byte) : (s.answer r status result).kept = s.kept :=
  State.kept_engineTake _

/-! ### Completions -/

theorem State.kept_completeData (r : FrameRecord) (resident : Bool) : (s.completeData r resident).kept = s.kept := by
  unfold State.completeData
  dsimp only
  split
  · refine State.kept_updateStream { s with drainTx := none } ?_
    unfold Stream.completed
    split <;> rfl
  · exact State.kept_deferredReturn _ _

/-- The completions but for that of the RESPONSE of RESET-DEVICE: the feed link carries on, or its transmission ends. -/
theorem CompletionEffect.kept {s t : State} {c : Instr} (h : CompletionEffect c s t) (hc : ∀ straps, c ≠ .responseComplete straps) :
    t.kept = s.kept ∨ t.kept = ({ s with feedTx := none } : State).kept := by
  cases h with
  | data htx => exact .inl (s.kept_completeData _ _)
  | forwardNote htx => exact .inl rfl
  | noteDone htx => exact .inl rfl
  | noteRefused htx => exact .inl rfl
  | resetting straps htx hends => exact absurd rfl (hc straps)
  | response straps htx hends => exact absurd rfl (hc straps)
  | backNote htx => exact .inr rfl
  | feedFrame htx hresponse hnote => exact .inr rfl

end Sys2Proof.Machine
end

section
/-!
Which cell bytes a command can change, and what only its owner changes.
-/

namespace Sys2Proof.Machine

/-! ### The cells (R25, R50) -/

section
variable {s t : State} {c : Instr}

theorem State.cells_eq_of_kept (h : t.kept = s.kept) : t.cells = s.cells := congrArg Prod.fst h

theorem State.cells_of_reserve {u : State} {v : Tag} {length : Nat} {record : FrameRecord}
    (h : s.reserve v length = some (record, u)) :
    u.cells = s.cells ∧ record.chain = s.pool.freeCells.take (cellsFor length) := by
  refine ⟨State.cells_eq_of_kept (s.kept_reserve h), ?_⟩
  unfold State.reserve at h
  split at h <;> cases h
  rfl

theorem State.takeData_cells_of_refused {v : Tag} {length : Nat} {body : List Byte} {running : CheckWord} {damaged : Bool}
    (h : s.admission v (cellsFor length) ≠ .admitted) : (s.takeData v length body running damaged).cells = s.cells := by
  unfold State.takeData
  split
  · simp
  · exact State.cells_eq_of_kept (s.kept_refuseLimit v)
  · simp
  · next hadmitted => exact absurd hadmitted h

/-- R50: of an admitted frame what has come of its payload, but for the last four bytes, is stored in the chain that it reserves. -/
theorem State.read_takeData_of_admitted {v : Tag} {length : Nat} {body : List Byte} {running : CheckWord} {damaged : Bool}
    (h : s.admission v (cellsFor length) = .admitted) {a : Nat}
    (ha : ∀ i, i < min length (body.length - 4) → storeAddress (s.pool.freeCells.take (cellsFor length)) i ≠ some a) :
    (s.takeData v length body running damaged).cells.read a = s.cells.read a := by
  rw [State.takeData_admitted h]
  unfold State.beginStoring
  split
  · next record u hreserve =>
    obtain ⟨hcells, hchain⟩ := State.cells_of_reserve hreserve
    show (u.cells.writeChain record.chain (framePayload length body)).read a = _
    rw [Memory.read_writeChain_outside, hcells]
    rw [hchain]
    intro i hi
    exact ha i (by simpa [framePayload] using hi)
  · rfl

theorem State.read_takeHeader {bytes : List Byte} {damaged : Bool} {a : Nat}
    (ha : 6 ≤ bytes.length → ∀ i, i < (s.storesAtHeader bytes).2 → storeAddress (s.storesAtHeader bytes).1 i ≠ some a) :
    (s.takeHeader bytes damaged).cells.read a = s.cells.read a := by
  unfold State.takeHeader
  split
  · rfl
  · next hlong =>
    have ha := ha (Nat.le_of_not_lt hlong)
    dsimp only
    split
    · rfl
    · next v hkind =>
      by_cases hadmitted : s.admission v (cellsFor (headerOf bytes).length.toNat) = .admitted
      · refine State.read_takeData_of_admitted hadmitted fun i hi => ?_
        simp only [State.storesAtHeader, hkind, hadmitted, if_true] at ha
        exact ha i (by simp only [List.length_drop] at hi; omega)
      · rw [State.takeData_cells_of_refused hadmitted]
    · rfl

/-- R25, R50: input from the feed link changes only the bytes that it stores. -/
theorem FeedEffect.read (h : FeedEffect c s t) (hawake : s.Awake) {a : Nat}
    (ha : ∀ i, i < (s.storesBytes c).2 → storeAddress (s.storesBytes c).1 i ≠ some a) : t.cells.read a = s.cells.read a := by
  cases h with
  | header hbytes =>
    refine State.read_takeHeader (s := s.drawFree _) fun hlong => ?_
    simp only [State.storesBytes, hbytes, if_pos (And.intro hawake hlong)] at ha
    exact ha
  | dataEnd hrx verdict =>
    rw [State.setFeedRx_cells, State.endData_cells]
    refine Memory.read_writeChain_outside _ _ _ fun i hi => ?_
    simp only [State.storesBytes, hrx, if_pos hawake] at ha
    refine ha i ?_
    simpa [framePayload, State.arrived] using hi
  | cutStoring hrx =>
    rw [State.setFeedRx_cells, State.cells_eq_of_kept (State.kept_countFeedMalformed _), State.returnReservation_cells]
    refine Memory.read_writeChain_outside _ _ _ fun i hi => ?_
    simp only [State.storesBytes, hrx, if_pos hawake] at ha
    refine ha i ?_
    simpa [State.arrived] using hi
  | stagedGood hrx hc hlength drawn =>
    rw [State.cells_eq_of_kept (HandOnEffect.of_stagedHandOn hc _ _).kept, State.setFeedRx_cells, State.drawFree_cells]
  | cutHeader marker hbytes => rfl
  | cutStaging hrx => rfl
  | cutSkipping hrx => rfl
  | ignored hrx => rfl
  | skipped hrx => rfl
  | stagedMalformed hrx hc drawn => rfl
  | stagedCheckError hrx hc drawn => rfl

theorem State.deviceReset_cells (s : State) (straps : Straps) : (s.deviceReset straps).cells = s.cells := by
  rw [State.deviceReset_frame]
  rfl

theorem State.shortPulse_eq (s : State) : s.shortPulse = { s with resetPin := s.shortPulse.resetPin } := by
  unfold State.shortPulse
  split <;> rfl

@[simp] theorem State.kept_shortPulse (s : State) : s.shortPulse.kept = s.kept := by
  rw [State.shortPulse_eq]
  rfl

@[simp] theorem State.kept_carryOn (s : State) : s.carryOn.kept = s.kept := by
  unfold State.carryOn
  split
  · exact s.kept_followCarrier
  · rfl

theorem AloneEffect.cells (h : AloneEffect c s t) : t.cells = s.cells := by
  cases h with
  | powerUp high => rfl
  | longPulse => rfl
  | shortPulse => exact State.cells_eq_of_kept s.kept_shortPulse
  | reset straps hpin => exact s.deviceReset_cells straps
  | risen straps hpin => exact State.deviceReset_cells _ straps
  | shortPulseEnd straps hpin =>
    unfold State.endShortPulse
    dsimp only
    split
    · exact State.deviceReset_cells _ straps
    · exact State.cells_eq_of_kept (State.kept_carryOn _)
  | tick hphase => exact State.cells_eq_of_kept s.kept_tick
  | tickHeld hphase => rfl

theorem OwnEffect.cells (h : OwnEffect c s t) : t.cells = s.cells := by
  cases h with
  | expiry v hphase hdue => exact State.cells_eq_of_kept (s.kept_expire v)
  | settled hphase hsettled => exact State.cells_eq_of_kept s.kept_carrierUp
  | drain k hdecision hframe => exact State.cells_eq_of_kept s.kept_decideDrain
  | feed k hdecision => exact State.cells_eq_of_kept (s := { s with feedTx := s.decideFeed.feedTx }) s.kept_decideFeed

theorem CompletionEffect.cells (h : CompletionEffect c s t) : t.cells = s.cells := by
  cases h with
  | data htx => exact State.cells_eq_of_kept (s.kept_completeData _ _)
  | resetting straps htx hends => exact s.deviceReset_cells straps
  | forwardNote htx => rfl
  | noteDone htx => rfl
  | noteRefused htx => rfl
  | response straps htx hends => rfl
  | backNote htx => rfl
  | feedFrame htx hresponse hnote => rfl

theorem RequestEffect.cells (h : RequestEffect c s t) : t.cells = s.cells := by
  by_cases hsettings : c = .writeSettings
  · subst hsettings
    cases h with
    | settings x hx => exact State.evaluatePool_cells _
    | none => rfl
    | closes hc v hstate hqueue => exact absurd hc (by simp)
    | drains hc v hstate hqueue => exact absurd hc (by simp)
    | discards hc v hstate => exact absurd hc (by simp)
  · by_cases hconfig : c = .writeStream
    · subst hconfig
      cases h with
      | config v k hk hstate => rw [State.writeConfig_eq]; rfl
      | none => rfl
      | closes hc v hstate hqueue => exact absurd hc (by simp)
      | drains hc v hstate hqueue => exact absurd hc (by simp)
      | discards hc v hstate => exact absurd hc (by simp)
    · exact State.cells_eq_of_kept (h.kept hsettings hconfig)

/-- R25, R50: a command changes a cell byte only where it stores payload in the state that it finds. -/
theorem BesideEffect.read (h : BesideEffect c s t) {a : Nat}
    (ha : ∀ i, i < (s.storesBytes c).2 → storeAddress (s.storesBytes c).1 i ≠ some a) : t.cells.read a = s.cells.read a := by
  cases h with
  | notTaken hc hawake => rfl
  | feed hawake h => exact h.read hawake ha
  | drain hawake h => rw [State.cells_eq_of_kept h.kept]
  | complete hawake h => rw [h.cells]
  | carrier present => rw [State.cells_eq_of_kept (s.kept_setCarrierPin present)]
  | answer hc hphase hr =>
    rw [State.cells_eq_of_kept (State.kept_answer _ _ _ _), (RequestEffect.of_requestEffect hc _ s).cells]

/-- R25, R50: what a command changes of the cells it stores there. -/
theorem read_of_exec (h : exec c s = .next t) {a : Nat}
    (ha : ∀ i, i < (s.found.storesBytes c).2 → storeAddress (s.found.storesBytes c).1 i ≠ some a) :
    t.cells.read a = s.cells.read a := by
  cases exec_next_cases h with
  | own h => rw [h.cells]
  | alone h => rw [h.cells, State.settle_cells]
  | beside h => rw [h.read ha, State.found_cells]

end

/-- Settles O17: every effect but the storing ones keeps the cell memory, and a storing one writes its frame's chain. -/
theorem onlyReceivedPayloadIsStored : Obligations.OnlyReceivedPayloadIsStored := fun _ _ _ h _ ha => read_of_exec h ha

/-! ### What is owed keeps what each of its steps keeps (R90, R102, R112, R170) -/

/-- Every step that is owed keeps `P`: an expiry of a timer that is due, the end of settling, and the decisions. -/
structure KeptByOwed (P : State → Prop) : Prop where
  expire : ∀ (s : State) (v : Tag), (s.stream v).timer = .due → P s → P (s.expire v)
  carrierUp : ∀ s : State, s.carrier = .settled → P s → P s.carrierUp
  decideDrain : ∀ s : State, P s → P s.decideDrain
  decideFeed : ∀ s : State, P s → P s.decideFeed
  tickTaken : ∀ s : State, s.tickOwes = false → P s → P (s.setAtTick false)

section
variable {P : State → Prop} {s t : State} {c : Instr}

theorem State.foldl_expire_keeps (hexpire : ∀ (s : State) (v : Tag), (s.stream v).timer = .due → P s → P (s.expire v))
    {l : List Tag} (hl : l.Nodup) (hdue : ∀ v ∈ l, (s.stream v).timer = .due) (h : P s) : P (l.foldl State.expire s) := by
  induction l generalizing s with
  | nil => exact h
  | cons v rest ih =>
    obtain ⟨hv, hrest⟩ := List.nodup_cons.1 hl
    refine ih hrest (fun w hw => ?_) (hexpire s v (hdue v List.mem_cons_self) h)
    rw [State.stream_expire_ne (by rintro rfl; exact hv hw)]
    exact hdue w (List.mem_cons_of_mem _ hw)

theorem KeptByOwed.takeTick (hP : KeptByOwed P) (h : P s) : P s.takeTick := by
  have hexpired : P s.expireDue := State.foldl_expire_keeps hP.expire (allTags_nodup.filter _) (by simp) h
  unfold State.takeTick State.finishSettling
  split
  · next hsettled => exact hP.carrierUp _ hsettled hexpired
  · exact hexpired

theorem State.tickOwes_takeTick (s : State) : s.takeTick.tickOwes = false :=
  State.tickOwes_eq_false.2 ⟨State.timer_takeTick, State.finishSettling_carrier _⟩

theorem State.tickOwes_settle (h : s.phase = .running) : s.settle.tickOwes = false := by
  rw [State.tickOwes_eq_false]
  obtain hquiet | ⟨htimer, hcarrier, -⟩ := s.settle_quiet h
  · exact ⟨hquiet.1, hquiet.2.1⟩
  · exact ⟨htimer, hcarrier⟩

theorem KeptByOwed.settle (hP : KeptByOwed P) (h : P s) : P s.settle := by
  cases hphase : s.phase with
  | inReset => rwa [State.settle_inReset hphase]
  | running =>
    have howes := State.tickOwes_settle hphase
    rw [State.settle_running hphase] at howes ⊢
    exact hP.tickTaken _ howes (hP.decideFeed _ (hP.decideDrain _ (hP.takeTick h)))

theorem KeptByOwed.found (hP : KeptByOwed P) (h : P s) : P s.found := by
  obtain ⟨-, hfound⟩ | ⟨-, -, hfound⟩ | ⟨-, -, hfound⟩ := s.found_cases
  · rwa [hfound]
  · rw [hfound]
    exact hP.tickTaken _ s.tickOwes_takeTick (hP.takeTick h)
  · rw [hfound]
    exact hP.settle h

theorem KeptByOwed.own (hP : KeptByOwed P) (heffect : OwnEffect c s t) (h : P s) : P t := by
  cases heffect with
  | expiry v hphase hdue => exact hP.expire s v hdue h
  | settled hphase hsettled => exact hP.carrierUp s hsettled h
  | drain k hdecision hframe => exact hP.decideDrain s h
  | feed k hdecision => exact hP.decideFeed s h

end

/-! ### Owners (R4, R6, R22, R153) -/

section
variable {s t : State} {c : Instr} {v : Tag}

theorem Stream.expired_state_ne_closed {x : Stream} (h : x.state ≠ .closed) : x.expired.state ≠ .closed := by
  unfold Stream.expired
  dsimp only
  split
  · exact h
  · exact StreamState.noConfusion

theorem State.stream_decideDrain_state (s : State) (v : Tag) : (s.decideDrain.stream v).state = (s.stream v).state := by
  unfold State.decideDrain
  split
  case h_4 =>
    split
    · unfold State.startData
      rw [State.stream_setStream]
      split
      · next hv => rw [hv]; rfl
      · rfl
    · rfl
  all_goals rfl

/-- R94: what is owed halts a stream at most. -/
theorem keptByOwed_state_ne_closed (v : Tag) : KeptByOwed fun s => (s.stream v).state ≠ .closed where
  expire s w _ h := by
    by_cases hw : v = w
    · subst hw
      rw [State.stream_expire]
      exact Stream.expired_state_ne_closed h
    · rwa [State.stream_expire_ne hw]
  carrierUp s _ h := by
    rw [State.stream_carrierUp]
    unfold Stream.restore
    split <;> exact h
  decideDrain s h := by rwa [State.stream_decideDrain_state]
  decideFeed s h := by
    obtain ⟨f, hf⟩ := s.stream_decideFeed v
    rwa [hf]
  tickTaken s _ h := by rwa [State.stream_setAtTick]

/-- What only its owner changes in a step: the sampled straps, the settings and the configurations. -/
structure OwnersKeep (c : Instr) (s t : State) : Prop where
  straps : t.profile = s.profile ∧ t.autoopen = s.autoopen
  settings : c ≠ .writeSettings → t.settings = s.settings
  config : ∀ v, c ≠ .writeStream → (t.stream v).config = (s.stream v).config
  drainTag : ∀ v, (s.stream v).state ≠ .closed → (t.stream v).config.drainTag = (s.stream v).config.drainTag

theorem OwnersKeep.of_kept (h : t.kept.2 = s.kept.2) : OwnersKeep c s t := by
  simp only [State.kept, Prod.mk.injEq, funext_iff] at h
  obtain ⟨hprofile, hautoopen, hsettings, -, hconfig⟩ := h
  exact ⟨⟨hprofile, hautoopen⟩, fun _ => hsettings, fun v _ => hconfig v, fun v _ => by rw [hconfig v]⟩

theorem OwnersKeep.of_kept_feedTx {f : Option FeedFrame} (h : t.kept = ({ s with feedTx := f } : State).kept) : OwnersKeep c s t := by
  obtain ⟨hstraps, hsettings, hconfig, hdrainTag⟩ := OwnersKeep.of_kept (c := c) (congrArg Prod.snd h)
  exact ⟨hstraps, hsettings, hconfig, hdrainTag⟩

theorem OwnersKeep.trans {u : State} (hu : OwnersKeep c s u) (hstate : ∀ v, (s.stream v).state ≠ .closed → (u.stream v).state ≠ .closed)
    (ht : OwnersKeep c u t) : OwnersKeep c s t where
  straps := ⟨ht.straps.1.trans hu.straps.1, ht.straps.2.trans hu.straps.2⟩
  settings hc := (ht.settings hc).trans (hu.settings hc)
  config v hc := (ht.config v hc).trans (hu.config v hc)
  drainTag v hv := (ht.drainTag v (hstate v hv)).trans (hu.drainTag v hv)

/-- What follows without touching these leaves the owners as they were. -/
theorem OwnersKeep.followed {u : State} (hu : OwnersKeep c s u) (ht : t.kept.2 = u.kept.2) : OwnersKeep c s t := by
  simp only [State.kept, Prod.mk.injEq, funext_iff] at ht
  obtain ⟨hprofile, hautoopen, hsettings, -, hconfig⟩ := ht
  exact ⟨⟨hprofile.trans hu.straps.1, hautoopen.trans hu.straps.2⟩, fun hc => hsettings.trans (hu.settings hc),
    fun v hc => (hconfig v).trans (hu.config v hc), fun v hv => by rw [hconfig v, hu.drainTag v hv]⟩

theorem OwnEffect.ownersKeep (h : OwnEffect c s t) : OwnersKeep c s t := by
  cases h with
  | expiry v hphase hdue => exact .of_kept (by rw [s.kept_expire v])
  | settled hphase hsettled => exact .of_kept (by rw [s.kept_carrierUp])
  | drain k hdecision hframe => exact .of_kept (by rw [s.kept_decideDrain])
  | feed k hdecision => exact .of_kept_feedTx s.kept_decideFeed

theorem AloneEffect.ownersKeep (h : AloneEffect c s t) (hreset : ∀ straps, c ≠ .deviceReset straps) : OwnersKeep c s t := by
  cases h with
  | powerUp high => exact .of_kept_feedTx (f := none) rfl
  | longPulse => exact .of_kept_feedTx (f := none) rfl
  | shortPulse => exact .of_kept (by rw [s.kept_shortPulse])
  | reset straps hpin => exact absurd rfl (hreset straps)
  | risen straps hpin => exact absurd rfl (hreset straps)
  | shortPulseEnd straps hpin => exact absurd rfl (hreset straps)
  | tick hphase => exact .of_kept (by rw [s.kept_tick])
  | tickHeld hphase => exact .of_kept rfl

/-- R153: WRITE-SETTINGS replaces the settings record. -/
theorem OwnersKeep.writeSettings (s : State) (x : Settings) : OwnersKeep .writeSettings s ({ s with settings := x } : State).evaluatePool := by
  have hkept : ({ s with settings := x } : State).evaluatePool.kept = ({ s with settings := x } : State).kept :=
    State.kept_eq_iff.2 (by simp)
  obtain ⟨hstraps, -, hconfig, hdrainTag⟩ := OwnersKeep.of_kept (c := .writeSettings) (congrArg Prod.snd hkept)
  exact ⟨hstraps, fun hc => absurd rfl hc, fun v _ => hconfig v Instr.noConfusion, hdrainTag⟩

/-- R7, R22: WRITE-STREAM replaces a configuration, and its drain tag only while the stream is CLOSED. -/
theorem OwnersKeep.writeConfig {w : Tag} {k : StreamConfig}
    (hstate : (s.stream w).state = .closed ∨ k.drainTag = (s.stream w).config.drainTag) :
    OwnersKeep .writeStream s (s.writeConfig w k) := by
  rw [State.writeConfig_eq]
  refine ⟨⟨rfl, rfl⟩, fun _ => rfl, fun v hc => absurd rfl hc, fun v hv => ?_⟩
  rw [State.stream_setStream]
  split
  · next hw =>
    subst hw
    exact hstate.resolve_left hv
  · rfl

theorem RequestEffect.ownersKeep (h : RequestEffect c s t) : OwnersKeep c s t := by
  cases h with
  | settings x hx => exact .writeSettings s x
  | config v k hk hstate => exact .writeConfig hstate
  | none => exact .of_kept rfl
  | opens v serial hstate hfree => exact .of_kept (by rw [s.kept_openAt v serial])
  | closes hc v hstate hqueue => exact .of_kept (by rw [s.kept_enterClosed v])
  | drains hc v hstate hqueue =>
    exact .of_kept (by rw [(RequestEffect.drains (c := .closeStreamDrain) (.inl rfl) v hstate hqueue).kept nofun nofun])
  | discards hc v hstate =>
    exact .of_kept (by rw [(RequestEffect.discards (c := .closeStreamDrain) (.inl rfl) v hstate).kept nofun nofun])
  | flush v serial hstate => exact .of_kept (by rw [(RequestEffect.flush v serial hstate).kept nofun nofun])
  | restart v hstate => exact .of_kept (by rw [(RequestEffect.restart v hstate).kept nofun nofun])
  | clearPort => exact .of_kept rfl
  | clearStream v => exact .of_kept (by rw [s.kept_countStream v])
  | clearForward => exact .of_kept rfl
  | clearBack => exact .of_kept rfl
  | discardAll => exact .of_kept (by rw [s.kept_discardAllStreams])
  | reset => exact .of_kept rfl

theorem BesideEffect.ownersKeep (h : BesideEffect c s t) (hresponse : ∀ straps, c ≠ .responseComplete straps) :
    OwnersKeep c s t := by
  cases h with
  | notTaken hc hawake => exact .of_kept rfl
  | feed hawake h => exact .of_kept h.kept
  | drain hawake h => exact .of_kept (by rw [h.kept])
  | complete hawake h =>
    obtain hkept | hkept := h.kept hresponse
    · exact .of_kept (by rw [hkept])
    · exact .of_kept_feedTx hkept
  | carrier present => exact .of_kept (by rw [s.kept_setCarrierPin present])
  | answer hc hphase hr =>
    exact (RequestEffect.of_requestEffect hc _ s).ownersKeep.followed (by rw [State.kept_answer])

end

/-- Settles O56: every effect keeps what is not its own; what is owed changes none of these and closes no stream. -/
theorem ownersAloneChange : Obligations.OwnersAloneChange := by
  intro c s t h hreset hresponse
  have hkeep : OwnersKeep c s t := by
    cases exec_next_cases h with
    | own h => exact h.ownersKeep
    | alone h =>
      exact (OwnersKeep.of_kept_feedTx s.kept_settle).trans (fun v => (keptByOwed_state_ne_closed v).settle) (h.ownersKeep hreset)
    | beside h =>
      exact (OwnersKeep.of_kept_feedTx s.kept_found).trans (fun v => (keptByOwed_state_ne_closed v).found) (h.ownersKeep hresponse)
  exact ⟨hkeep.straps.1, hkeep.straps.2, hkeep.settings, fun v => ⟨hkeep.config v, hkeep.drainTag v⟩⟩

end Sys2Proof.Machine
end

section
/-!
What becomes of a transmission: no command changes what is sent, and none starts a transmission but the arbiters' own steps.
-/

namespace Sys2Proof.Machine

/-! ### The transmission on the drain link -/

/-- R108: a transmission goes on: at most its mark is cleared, or its tally grows; neither is sent. -/
inductive DrainTransmission.GoesOn : DrainTransmission → DrainTransmission → Prop where
  | same (tx : DrainTransmission) : GoesOn tx tx
  | unmarked (record : FrameRecord) (resident : Bool) (d : DrainTag) (x : Serial) :
      GoesOn (.data record resident d x) (.data record false d x)
  | doneTallied (sent : Indication) (before after : Option Indication) : GoesOn (.noteDone sent before) (.noteDone sent after)
  | refusedTallied (sent : Indication) (before after : Option Indication) :
      GoesOn (.noteRefused sent before) (.noteRefused sent after)

/-- A transmission ends or goes on, and none starts. -/
inductive DrainFollows : Option DrainTransmission → Option DrainTransmission → Prop where
  | ended (o : Option DrainTransmission) : DrainFollows o none
  | goesOn {tx after : DrainTransmission} (h : tx.GoesOn after) : DrainFollows (some tx) (some after)

theorem DrainTransmission.GoesOn.trans {a b c : DrainTransmission} (h : a.GoesOn b) (h' : b.GoesOn c) : a.GoesOn c := by
  cases h with
  | same => exact h'
  | unmarked record resident d x => cases h' <;> exact .unmarked record resident d x
  | doneTallied sent before after =>
    cases h' with
    | same => exact .doneTallied sent before after
    | doneTallied _ _ last => exact .doneTallied sent before last
  | refusedTallied sent before after =>
    cases h' with
    | same => exact .refusedTallied sent before after
    | refusedTallied _ _ last => exact .refusedTallied sent before last

theorem DrainTransmission.goesOn_unmark (tx : DrainTransmission) : tx.GoesOn tx.unmark := by
  cases tx with
  | data record resident d x => exact .unmarked record resident d x
  | note n => exact .same _
  | noteDone sent tally => exact .same _
  | noteRefused sent tally => exact .same _

theorem DrainTransmission.goesOn_tallyDone (tx : DrainTransmission) (number : Byte) : tx.GoesOn (tx.tallyDone number) := by
  cases tx with
  | noteDone sent tally => exact .doneTallied sent tally _
  | data record resident d x => exact .same _
  | note n => exact .same _
  | noteRefused sent tally => exact .same _

theorem DrainTransmission.goesOn_tallyRefused (tx : DrainTransmission) (number : Byte) : tx.GoesOn (tx.tallyRefused number) := by
  cases tx with
  | noteRefused sent tally => exact .refusedTallied sent tally _
  | data record resident d x => exact .same _
  | note n => exact .same _
  | noteDone sent tally => exact .same _

theorem DrainFollows.of_eq {o p : Option DrainTransmission} (h : p = o) : DrainFollows o p := by
  subst h
  cases p with
  | none => exact .ended none
  | some tx => exact .goesOn (.same tx)

theorem DrainFollows.map (o : Option DrainTransmission) {f : DrainTransmission → DrainTransmission}
    (h : ∀ tx : DrainTransmission, tx.GoesOn (f tx)) :
    DrainFollows o (o.map f) := by
  cases o with
  | none => exact .ended none
  | some tx => exact .goesOn (h tx)

theorem DrainFollows.trans {a b c : Option DrainTransmission} (h : DrainFollows a b) (h' : DrainFollows b c) : DrainFollows a c := by
  cases h' with
  | ended => exact .ended a
  | goesOn hlast =>
    cases h with
    | goesOn hfirst => exact .goesOn (hfirst.trans hlast)

theorem DrainFollows.eq_none {o : Option DrainTransmission} (h : DrainFollows none o) : o = none := by
  cases h
  rfl

/-- In the step from s to t a transmission on the drain link ends or goes on, and none starts. -/
def State.SendsOn (s t : State) : Prop := DrainFollows s.drainTx t.drainTx

section
variable {s t u : State} {c : Instr}

theorem State.SendsOn.of_eq (h : t.drainTx = s.drainTx) : s.SendsOn t := DrainFollows.of_eq h

theorem State.SendsOn.trans (h : s.SendsOn t) (h' : t.SendsOn u) : s.SendsOn u := DrainFollows.trans h h'

/-- What follows without touching the transmitter. -/
theorem State.SendsOn.followed (h : s.SendsOn t) (h' : u.drainTx = t.drainTx) : s.SendsOn u := h.trans (.of_eq h')

theorem State.sendsOn_handBack (s : State) (gone : List FrameRecord) : s.SendsOn (s.handBack gone) := by
  show DrainFollows s.drainTx (if _ then _ else _)
  split
  · exact .map _ DrainTransmission.goesOn_unmark
  · exact .of_eq rfl

theorem State.sendsOn_release (s : State) (v : Tag) (k : Nat) : s.SendsOn (s.release v k) := by
  have h := (s.updateStream v fun x => { x with
      queue := x.queue.drop k, occupancy := x.occupancy - cellsOf ((s.stream v).queue.take k)
      head := x.head + BitVec.ofNat 12 ((s.stream v).queue.take k).length }).sendsOn_handBack ((s.stream v).queue.take k)
  rwa [State.SendsOn, State.updateStream_drainTx] at h

theorem ReleasedTo.sendsOn {gone : List FrameRecord} (h : ReleasedTo s t gone) : s.SendsOn t := by
  rw [State.SendsOn, h.2.2]
  split
  · exact .map _ DrainTransmission.goesOn_unmark
  · exact .of_eq rfl

@[simp] theorem State.finishRelease_drainTx (s : State) (v : Tag) (o : CloseOutcome) (occupancy free : Nat) :
    (s.finishRelease v o occupancy free).drainTx = s.drainTx := by simp [State.finishRelease]

@[simp] theorem State.engineTake_drainTx (s : State) : s.engineTake.drainTx = s.drainTx := by
  unfold State.engineTake
  split <;> rfl

/-! ### Each effect -/

theorem HandOnEffect.sendsOn (h : HandOnEffect s t) : s.SendsOn t := by
  cases h with
  | request r =>
    refine .of_eq ?_
    unfold State.requestArrives
    split
    · exact State.engineTake_drainTx _
    · exact State.raise_drainTx _ _
  | note n =>
    refine .of_eq ?_
    unfold State.forwardNoteArrives
    split <;> rfl
  | noteTaken number =>
    unfold State.backNoteTaken
    split
    · exact DrainFollows.map _ fun tx => tx.goesOn_tallyDone number
    · exact .of_eq rfl

theorem State.replayAtHead_drainTx (s : State) (v : Tag) (serial : Serial) : (s.replayAtHead v serial).drainTx = s.drainTx := by
  unfold State.replayAtHead
  dsimp only
  split
  · split <;> simp
  · split
    · split <;> simp
    · simp

theorem State.sendsOn_replayAccepted (s : State) (v : Tag) (serial : Serial) : s.SendsOn (s.replayAccepted v serial) := by
  by_cases h : Serial.distance (s.stream v).head serial = 0
  · refine .of_eq ?_
    unfold State.replayAccepted
    dsimp only
    rw [if_pos h, State.replayAtHead_drainTx, State.countStream_drainTx]
  · rw [State.replayAccepted_eq s v serial h]
    exact (s.sendsOn_release v _).followed ((State.finishRelease_drainTx ..).trans (State.updateStream_drainTx ..))

theorem RoutedEffect.sendsOn (h : RoutedEffect s t) : s.SendsOn t := by
  cases h with
  | ack v serial d hmapped htaken =>
    rw [State.ackProgress_eq]
    exact (s.sendsOn_release v _).followed ((State.finishRelease_drainTx ..).trans (State.updateStream_drainTx ..))
  | replay v serial d hmapped htaken => exact s.sendsOn_replayAccepted v serial
  | stale v => exact .of_eq (s.countStream_drainTx v _)
  | ahead v kind d serial => exact .of_eq (s.raise_drainTx _)
  | stray kind d sent => exact .of_eq (State.raise_drainTx _ _)
  | holdAll => exact .of_eq (s.mapStreams_drainTx _)
  | resumeAll => exact .of_eq (s.mapStreams_drainTx _)
  | hold v d hmapped => exact .of_eq (s.updateStream_drainTx v _)
  | resume v d hmapped => exact .of_eq (s.updateStream_drainTx v _)
  | note n =>
    unfold State.backNoteArrives
    split
    · exact .of_eq rfl
    · exact DrainFollows.map _ fun tx => tx.goesOn_tallyRefused _
  | noteTaken number =>
    refine .of_eq ?_
    unfold State.forwardNoteTaken
    split <;> rfl

theorem State.receive_drainTx (s : State) (opens : Bool) (symbols : List LaneSymbol) : (s.receive opens symbols).drainTx = s.drainTx := by
  rw [State.receive_frame]

theorem ReturnEffect.sendsOn (h : ReturnEffect c s t) : s.SendsOn t := by
  cases h with
  | held hc opens symbols => exact .of_eq (s.receive_drainTx opens symbols)
  | restarted hc opens symbols => exact .of_eq (by rw [State.returnStarts_eq]; exact s.receive_drainTx opens symbols)
  | ended hc opens symbols => exact .of_eq (s.receive_drainTx opens symbols)
  | malformed hc opens symbols => exact .of_eq (s.receive_drainTx opens symbols)
  | checkError hc opens symbols => exact .of_eq (s.receive_drainTx opens symbols)
  | routed hc opens symbols hrx hgood =>
    exact (State.SendsOn.of_eq (t := (s.receive opens symbols).setDrainRx .awaitStart) (s.receive_drainTx opens symbols)).trans
      (RoutedEffect.of_routedFrame hc _).sendsOn

theorem State.reserve_drainTx {v : Tag} {length : Nat} {record : FrameRecord} (h : s.reserve v length = some (record, u)) :
    u.drainTx = s.drainTx := by
  unfold State.reserve at h
  split at h <;> cases h
  simp

theorem State.refuseLimit_drainTx (s : State) (v : Tag) : (s.refuseLimit v).drainTx = s.drainTx := by
  unfold State.refuseLimit
  dsimp only
  split <;> simp

theorem State.takeHeader_drainTx (s : State) (bytes : List Byte) (damaged : Bool) : (s.takeHeader bytes damaged).drainTx = s.drainTx := by
  unfold State.takeHeader
  split
  · rfl
  · dsimp only
    split
    · rfl
    · unfold State.takeData
      split
      · simp
      · exact s.refuseLimit_drainTx _
      · simp
      · unfold State.beginStoring
        split
        · next u hreserve => exact State.reserve_drainTx (u := u) hreserve
        · rfl
    · rfl

theorem State.endData_drainTx (s : State) (r : FrameRecord) (verdict : FrameVerdict) : (s.endData r verdict).drainTx = s.drainTx := by
  cases verdict with
  | countMismatch => exact s.returnReservation_drainTx r
  | checkMismatch => exact s.returnReservation_drainTx r
  | good =>
    show State.drainTx (if _ then _ else _) = _
    split <;> simp

theorem State.countFeedMalformed_drainTx (s : State) : s.countFeedMalformed.drainTx = s.drainTx := rfl

theorem FeedEffect.sendsOn (h : FeedEffect c s t) : s.SendsOn t := by
  cases h with
  | header hbytes => exact .of_eq (State.takeHeader_drainTx _ _ _)
  | dataEnd hrx verdict => exact .of_eq (State.endData_drainTx _ _ _)
  | cutStoring hrx =>
    refine .of_eq ?_
    rw [State.setFeedRx_drainTx, State.countFeedMalformed_drainTx, State.returnReservation_drainTx, State.storeBytes_drainTx,
      State.drawFree_drainTx]
  | stagedGood hrx hc hlength drawn =>
    refine State.SendsOn.trans (t := (s.drawFree drawn).setFeedRx .awaitStart) (.of_eq ?_) (HandOnEffect.of_stagedHandOn hc _ _).sendsOn
    rw [State.setFeedRx_drainTx, State.drawFree_drainTx]
  | cutHeader marker hbytes => exact .of_eq rfl
  | cutStaging hrx => exact .of_eq rfl
  | cutSkipping hrx => exact .of_eq rfl
  | ignored hrx => exact .of_eq rfl
  | skipped hrx => exact .of_eq rfl
  | stagedMalformed hrx hc drawn => exact .of_eq rfl
  | stagedCheckError hrx hc drawn => exact .of_eq rfl

theorem State.sendsOn_discardClose (s : State) (v : Tag) : s.SendsOn (s.discardClose v) := by
  rw [State.discardClose_eq]
  refine State.SendsOn.followed (s.sendsOn_release v (s.stream v).queue.length) ?_
  simp [State.emptied, State.releaseAll]

theorem RequestEffect.sendsOn (h : RequestEffect c s t) : s.SendsOn t := by
  cases h with
  | none => exact .of_eq rfl
  | settings x hx => exact .of_eq (State.evaluatePool_drainTx _)
  | config v k hk hstate => exact .of_eq (by rw [State.writeConfig_eq, State.setStream_drainTx])
  | opens v serial hstate hfree => exact .of_eq (s.openAt_drainTx v serial)
  | closes hc v hstate hqueue => exact .of_eq (s.enterClosed_drainTx v)
  | drains hc v hstate hqueue => exact .of_eq (s.updateStream_drainTx v _)
  | discards hc v hstate => exact s.sendsOn_discardClose v
  | flush v serial hstate =>
    rw [State.flush_eq]
    exact (s.sendsOn_release v _).followed ((State.finishRelease_drainTx ..).trans (State.updateStream_drainTx ..))
  | restart v hstate => exact .of_eq (s.updateStream_drainTx v _)
  | clearPort => exact .of_eq rfl
  | clearStream v => exact .of_eq (s.countStream_drainTx v _)
  | clearForward => exact .of_eq rfl
  | clearBack => exact .of_eq rfl
  | discardAll =>
    refine State.SendsOn.followed (t := allTags.foldl State.discardStream s) ?_ (State.evaluatePoolFrom_drainTx _ _)
    exact (s.discardsAll_foldl allTags allTags_nodup).released.sendsOn
  | reset => exact .of_eq rfl

theorem State.deviceReset_drainTx (s : State) (straps : Straps) : (s.deviceReset straps).drainTx = none := by
  rw [State.deviceReset_frame]
  rfl

theorem State.sendsOn_of_none (h : t.drainTx = none) : s.SendsOn t := by
  rw [State.SendsOn, h]
  exact .ended _

theorem State.completeData_drainTx (s : State) (r : FrameRecord) (resident : Bool) : (s.completeData r resident).drainTx = none := by
  unfold State.completeData
  dsimp only
  split
  · rw [State.updateStream_drainTx]
  · rw [State.deferredReturn, State.evaluatePoolFrom_drainTx]

theorem CompletionEffect.sendsOn (h : CompletionEffect c s t) : s.SendsOn t := by
  cases h with
  | data htx => exact State.sendsOn_of_none (s.completeData_drainTx _ _)
  | forwardNote htx => exact State.sendsOn_of_none rfl
  | noteDone htx => exact State.sendsOn_of_none rfl
  | noteRefused htx => exact State.sendsOn_of_none rfl
  | resetting straps htx hends => exact State.sendsOn_of_none (s.deviceReset_drainTx straps)
  | response straps htx hends => exact .of_eq rfl
  | backNote htx => exact .of_eq rfl
  | feedFrame htx hresponse hnote => exact .of_eq rfl

theorem State.carrierLoss_drainTx (s : State) : s.carrierLoss.drainTx = none := by rw [State.carrierLoss_frame]

theorem State.sendsOn_followCarrier (s : State) : s.SendsOn s.followCarrier := by
  unfold State.followCarrier
  split
  case h_8 => exact State.sendsOn_of_none s.carrierLoss_drainTx
  all_goals exact .of_eq rfl

theorem State.sendsOn_setCarrierPin (s : State) (present : Bool) : s.SendsOn (s.setCarrierPin present) := by
  unfold State.setCarrierPin
  dsimp only
  split
  · exact State.sendsOn_followCarrier { s with carrierPin := present }
  · exact .of_eq rfl

theorem BesideEffect.sendsOn (h : BesideEffect c s t) : s.SendsOn t := by
  cases h with
  | notTaken hc hawake => exact .of_eq rfl
  | feed hawake h => exact h.sendsOn
  | drain hawake h => exact h.sendsOn
  | complete hawake h => exact h.sendsOn
  | carrier present => exact s.sendsOn_setCarrierPin present
  | answer hc hphase hr => exact (RequestEffect.of_requestEffect hc _ s).sendsOn.followed (State.engineTake_drainTx _)

theorem State.shortPulse_drainTx (s : State) : s.shortPulse.drainTx = s.drainTx := by rw [State.shortPulse_eq]

theorem AloneEffect.sendsOn (h : AloneEffect c s t) : s.SendsOn t := by
  cases h with
  | powerUp high => exact State.sendsOn_of_none rfl
  | longPulse => exact State.sendsOn_of_none rfl
  | shortPulse => exact .of_eq s.shortPulse_drainTx
  | reset straps hpin => exact State.sendsOn_of_none (s.deviceReset_drainTx straps)
  | risen straps hpin => exact State.sendsOn_of_none (State.deviceReset_drainTx _ straps)
  | shortPulseEnd straps hpin =>
    unfold State.endShortPulse
    dsimp only
    split
    · exact State.sendsOn_of_none (State.deviceReset_drainTx _ straps)
    · unfold State.carryOn
      split
      · exact State.sendsOn_followCarrier { s with resetPin := .high, freeCount := s.freeCount + 1 }
      · exact .of_eq rfl
  | tick hphase => exact .of_eq s.tick_drainTx
  | tickHeld hphase => exact .of_eq rfl

theorem State.expire_drainTx (s : State) (v : Tag) : (s.expire v).drainTx = s.drainTx := by rw [State.expire_frame]

theorem State.carrierUp_drainTx (s : State) : s.carrierUp.drainTx = s.drainTx := by rw [State.carrierUp_eq]

theorem State.decideFeed_drainTx (s : State) : s.decideFeed.drainTx = s.drainTx := by rw [State.decideFeed_frame]

/-- R112: the drain arbiter decides only while its transmitter is free. -/
theorem State.decideDrain_drainTx_of_some {tx : DrainTransmission} (h : s.drainTx = some tx) : s.decideDrain.drainTx = some tx := by
  rw [State.decideDrain_of_none, h]
  exact if_neg fun hfree => by rw [h] at hfree; cases hfree.2.1

theorem OwnEffect.drainTx_of_some (h : OwnEffect c s t) {tx : DrainTransmission} (htx : s.drainTx = some tx) : t.drainTx = some tx := by
  cases h with
  | expiry v hphase hdue => rwa [State.expire_drainTx]
  | settled hphase hsettled => rwa [State.carrierUp_drainTx]
  | drain k hdecision hframe => exact State.decideDrain_drainTx_of_some htx
  | feed k hdecision => rwa [State.decideFeed_drainTx]

/-- R108: what is in transmission on the drain link ends or goes on. -/
theorem drainTx_of_exec (h : exec c s = .next t) {tx : DrainTransmission} (htx : s.drainTx = some tx) :
    DrainFollows (some tx) t.drainTx := by
  cases exec_next_cases h with
  | own h => exact .of_eq (h.drainTx_of_some htx)
  | alone h => simpa only [State.SendsOn, State.settle_drainTx_of_some htx] using h.sendsOn
  | beside h => simpa only [State.SendsOn, State.found_drainTx_of_some htx] using h.sendsOn

end

end Sys2Proof.Machine
end

section
/-!
The bytes of a transmission, which no command changes (R108, R171), and which transmissions start (R112, R170).
-/

namespace Sys2Proof.Machine

section
variable {s t : State} {c : Instr}

/-! ### The transmission on the feed link -/

theorem State.feedTx_eq_of_kept (h : t.kept.2 = s.kept.2) : t.feedTx = s.feedTx := by
  simp only [State.kept, Prod.mk.injEq] at h
  exact h.2.2.2.1

theorem State.deviceReset_feedTx (s : State) (straps : Straps) : (s.deviceReset straps).feedTx = none := by
  rw [State.deviceReset_frame]
  rfl

theorem AloneEffect.feedTx (h : AloneEffect c s t) : t.feedTx = s.feedTx ∨ t.feedTx = none := by
  cases h with
  | powerUp high => exact .inr rfl
  | longPulse => exact .inr rfl
  | shortPulse => exact .inl (State.feedTx_eq_of_kept (by rw [s.kept_shortPulse]))
  | reset straps hpin => exact .inr (s.deviceReset_feedTx straps)
  | risen straps hpin => exact .inr (State.deviceReset_feedTx _ straps)
  | shortPulseEnd straps hpin =>
    unfold State.endShortPulse
    dsimp only
    split
    · exact .inr (State.deviceReset_feedTx _ straps)
    · exact .inl (State.feedTx_eq_of_kept (s := { s with resetPin := .high, freeCount := s.freeCount + 1 })
        (by rw [State.kept_carryOn]))
  | tick hphase => exact .inl s.tick_feedTx
  | tickHeld hphase => exact .inl rfl

theorem CompletionEffect.feedTx (h : CompletionEffect c s t) : t.feedTx = s.feedTx ∨ t.feedTx = none := by
  cases h with
  | data htx => exact .inl (State.feedTx_eq_of_kept (by rw [s.kept_completeData]))
  | resetting straps htx hends => exact .inr (s.deviceReset_feedTx straps)
  | forwardNote htx => exact .inl rfl
  | noteDone htx => exact .inl rfl
  | noteRefused htx => exact .inl rfl
  | response straps htx hends => exact .inr rfl
  | backNote htx => exact .inr rfl
  | feedFrame htx hresponse hnote => exact .inr rfl

theorem RequestEffect.feedTx (h : RequestEffect c s t) : t.feedTx = s.feedTx := by
  by_cases hsettings : c = .writeSettings
  · subst hsettings
    cases h with
    | settings x hx => exact State.evaluatePool_feedTx _
    | none => rfl
    | closes hc v hstate hqueue => exact absurd hc (by simp)
    | drains hc v hstate hqueue => exact absurd hc (by simp)
    | discards hc v hstate => exact absurd hc (by simp)
  · by_cases hconfig : c = .writeStream
    · subst hconfig
      cases h with
      | config v k hk hstate => rw [State.writeConfig_eq, State.setStream_feedTx]
      | none => rfl
      | closes hc v hstate hqueue => exact absurd hc (by simp)
      | drains hc v hstate hqueue => exact absurd hc (by simp)
      | discards hc v hstate => exact absurd hc (by simp)
    · exact State.feedTx_eq_of_kept (by rw [h.kept hsettings hconfig])

theorem BesideEffect.feedTx (h : BesideEffect c s t) : t.feedTx = s.feedTx ∨ t.feedTx = none := by
  cases h with
  | notTaken hc hawake => exact .inl rfl
  | feed hawake h => exact .inl (State.feedTx_eq_of_kept h.kept)
  | drain hawake h => exact .inl (State.feedTx_eq_of_kept (by rw [h.kept]))
  | complete hawake h => exact h.feedTx
  | carrier present => exact .inl (State.feedTx_eq_of_kept (by rw [s.kept_setCarrierPin]))
  | answer hc hphase hr =>
    refine .inl ?_
    rw [State.feedTx_eq_of_kept (congrArg Prod.snd (State.kept_answer _ _ _ _)), (RequestEffect.of_requestEffect hc _ s).feedTx]

theorem State.expire_feedTx (s : State) (v : Tag) : (s.expire v).feedTx = s.feedTx := by rw [State.expire_frame]
theorem State.carrierUp_feedTx (s : State) : s.carrierUp.feedTx = s.feedTx := by rw [State.carrierUp_eq]
theorem State.decideDrain_feedTx (s : State) : s.decideDrain.feedTx = s.feedTx := by rw [State.decideDrain_frame]

/-- R170: the feed arbiter decides only while its transmitter is free. -/
theorem State.decideFeed_feedTx_of_some {f : FeedFrame} (h : s.feedTx = some f) : s.decideFeed.feedTx = some f := by
  rw [State.decideFeed_of_none, h]
  exact if_neg fun hfree => by rw [h] at hfree; cases hfree.2

theorem OwnEffect.feedTx_of_some (h : OwnEffect c s t) {f : FeedFrame} (hf : s.feedTx = some f) : t.feedTx = some f := by
  cases h with
  | expiry v hphase hdue => rwa [State.expire_feedTx]
  | settled hphase hsettled => rwa [State.carrierUp_feedTx]
  | drain k hdecision hframe => rwa [State.decideDrain_feedTx]
  | feed k hdecision => exact State.decideFeed_feedTx_of_some hf

/-- R171: what is in transmission on the feed link goes on or ends. -/
theorem feedTx_of_exec (h : exec c s = .next t) {f : FeedFrame} (hf : s.feedTx = some f) :
    t.feedTx = some f ∨ t.feedTx = none := by
  cases exec_next_cases h with
  | own h => exact .inl (h.feedTx_of_some hf)
  | alone h => simpa only [State.settle_feedTx_of_some hf] using h.feedTx
  | beside h => simpa only [State.found_feedTx_of_some hf] using h.feedTx

/-! ### The cells of the frame in transmission (R28, R35) -/

/-- Payload bytes read along a chain depend on its own cells alone. -/
theorem Memory.readChain_congr {m n : Memory} {chain : List Nat} (length : Nat)
    (h : ∀ a, a / 64 ∈ chain → n.read a = m.read a) : n.readChain chain length = m.readChain chain length := by
  unfold Memory.readChain Memory.readBytes
  congr 1
  refine List.flatMap_congr fun k hk => List.map_congr_left fun i hi => h _ ?_
  rw [List.mem_range] at hi
  have hcell : (Config.cellSize * k + i) / 64 = k := by
    simp only [Config.cellSize] at hi ⊢
    omega
  rwa [hcell]

theorem mem_of_storeAddress {chain : List Nat} {i a : Nat} (h : storeAddress chain i = some a) : a / 64 ∈ chain := by
  obtain ⟨k, hk, rfl⟩ := Option.map_eq_some_iff.1 h
  have hcell : (64 * k + i % 64) / 64 = k := by omega
  rw [hcell]
  exact List.mem_of_getElem? hk

/-- R29, R50: payload is stored in free cells, which the frame reserves, and in the cells of the frame in reception. -/
theorem State.mem_storesBytes {k : Nat} (h : k ∈ (s.storesBytes c).1) :
    k ∈ s.pool.freeCells ∨ ∃ r, s.fillingRecord = some r ∧ k ∈ r.chain := by
  unfold State.storesBytes at h
  split at h
  · split at h
    · split at h
      · unfold State.storesAtHeader at h
        dsimp only at h
        split at h
        · split at h
          · exact .inl (List.mem_of_mem_take h)
          · cases h
        · cases h
        · cases h
      · cases h
    · cases h
  · split at h
    · next hrx =>
      split at h
      · exact .inr ⟨_, by rw [State.fillingRecord, hrx], h⟩
      · cases h
    · cases h
  · split at h
    · next hrx =>
      split at h
      · exact .inr ⟨_, by rw [State.fillingRecord, hrx], h⟩
      · cases h
    · cases h
  · cases h

theorem State.queue_mem_streams (s : State) {r : FrameRecord} {v : Tag} (h : r ∈ (s.stream v).queue) :
    r ∈ s.streams.toList.flatMap fun x => x.queue := by
  rw [State.streams_toList, List.flatMap_map]
  exact List.mem_flatMap.2 ⟨v, mem_allTags v, h⟩

/-- R27, R34: the frame in transmission is RESIDENT or DEFERRED. -/
theorem State.Law.sent_held (h : s.Law) {record : FrameRecord} {resident : Bool} {d : DrainTag} {x : Serial}
    (htx : s.drainTx = some (.data record resident d x)) :
    record ∈ (s.streams.toList.flatMap fun x => x.queue) ++ s.deferredRecord.toList := by
  cases resident with
  | true => exact List.mem_append_left _ (s.queue_mem_streams (h.transmission record d x htx).1)
  | false => exact List.mem_append_right _ (by simp [State.deferredRecord, abandonedRecords, htx])

/-- R35: no cell of the frame in transmission is free or belongs to the frame in reception. -/
theorem State.Law.sent_chain_apart (h : s.Law) {record : FrameRecord} {resident : Bool} {d : DrainTag} {x : Serial}
    (htx : s.drainTx = some (.data record resident d x)) {k : Nat} (hk : k ∈ record.chain) :
    k ∉ s.pool.freeCells ∧ ∀ r, s.fillingRecord = some r → k ∉ r.chain := by
  have hnodup : (s.pool.freeCells ++ s.heldRecords.flatMap fun r => r.chain).Nodup := h.cells.nodup_iff.2 List.nodup_range
  rw [State.heldRecords, List.append_assoc, List.flatMap_append, List.nodup_append, List.nodup_append] at hnodup
  obtain ⟨-, ⟨-, -, hfilling⟩, hfree⟩ := hnodup
  have hsent := List.mem_flatMap_of_mem (f := fun r : FrameRecord => r.chain) (h.sent_held htx) hk
  refine ⟨fun hmem => hfree k hmem k (List.mem_append_right _ hsent) rfl, fun r hr hmem => ?_⟩
  exact hfilling k (by simpa [hr] using hmem) k hsent rfl

/-- R108: the DATA payload in transmission stays as it is in its cells. -/
theorem readChain_of_exec (h : exec c s = .next t) (hlaw : s.Law) {record : FrameRecord} {resident : Bool} {d : DrainTag} {x : Serial}
    (htx : s.drainTx = some (.data record resident d x)) :
    t.cells.readChain record.chain record.length = s.cells.readChain record.chain record.length := by
  refine Memory.readChain_congr _ fun a ha => read_of_exec h fun i _ hstore => ?_
  obtain ⟨hfree, hfilling⟩ := hlaw.sent_chain_apart htx ha
  obtain hmem | ⟨r, hr, hmem⟩ := State.mem_storesBytes (mem_of_storeAddress hstore)
  · exact hfree (by simpa using hmem)
  · exact hfilling r (by simpa [State.fillingRecord] using hr) hmem

/-- R108: a transmission that goes on is sent with the same bytes, as long as its cells keep theirs. -/
theorem DrainTransmission.GoesOn.bytes {tx after : DrainTransmission} {m n : Memory} (h : tx.GoesOn after)
    (hcells : ∀ record resident d x, tx = .data record resident d x →
      n.readChain record.chain record.length = m.readChain record.chain record.length) : after.bytes n = tx.bytes m := by
  cases h with
  | same =>
    cases tx with
    | data record resident d x => exact congrArg (frameBytes kindData (DrainTag.byte d) x) (hcells record resident d x rfl)
    | note n => rfl
    | noteDone sent tally => rfl
    | noteRefused sent tally => rfl
  | unmarked record resident d x => exact congrArg (frameBytes kindData (DrainTag.byte d) x) (hcells record resident d x rfl)
  | doneTallied sent before after => rfl
  | refusedTallied sent before after => rfl

end

/-- Settles O40: what is in transmission ends or goes on, and its bytes are read from cells that no command writes. -/
theorem transmissionsGoOn : Obligations.TransmissionsGoOn := by
  intro c s u h
  refine ⟨fun f hf => feedTx_of_exec h hf, fun record resident d x htx => ?_, fun n htx => ?_, fun i a htx => ?_, fun i a htx => ?_,
    fun hs hu hsome hstill => ?_, fun hrange hlawful hs hu hsome hstill => ?_⟩
  case refine_5 =>
    obtain ⟨f, hf⟩ := Option.ne_none_iff_exists'.1 hsome
    have hfu := (feedTx_of_exec h hf).resolve_right hstill
    rw [State.feedBytes_awake hs hf, State.feedBytes_awake hu hfu]
  case refine_6 =>
    obtain ⟨tx, htx⟩ := Option.ne_none_iff_exists'.1 hsome
    obtain ⟨after, hafter⟩ := Option.ne_none_iff_exists'.1 hstill
    have hfollows := drainTx_of_exec h htx
    rw [hafter] at hfollows
    rw [State.drainBytes_awake hs htx, State.drainBytes_awake hu hafter]
    cases hfollows with
    | goesOn hgoes =>
      refine congrArg some (hgoes.bytes fun record resident d x hdata => ?_)
      subst hdata
      exact readChain_of_exec h (hlawful hs.1) htx
  all_goals
    have hfollows := drainTx_of_exec h htx
    generalize u.drainTx = after at hfollows
    cases hfollows with
    | ended => exact .inl rfl
    | goesOn hgoes => cases hgoes <;> simp

/-! ### Starts -/

section
variable {s t : State} {c : Instr}

theorem OwnEffect.of_exec (hown : c.ownStep = true) (h : exec c s = .next t) : OwnEffect c s t := by
  cases c with
  | timerExpiry v => exact .of_timerExpiry h
  | carrierSettled => exact .of_carrierSettled h
  | dataTransmissionStart => exact .of_dataTransmissionStart h
  | forwardNoteStart => exact .of_forwardNoteStart h
  | drainIndicationStart => exact .of_drainIndicationStart h
  | flowFrameStart => exact .of_flowFrameStart h
  | feedIndicationStart => exact .of_feedIndicationStart h
  | responseStart => exact .of_responseStart h
  | backNoteStart => exact .of_backNoteStart h
  | eventFrameStart => exact .of_eventFrameStart h
  | _ => cases hown

/-- Where nothing is owed, no command starts a transmission that is not the part's own step. -/
theorem starts_nothing_of_quiet (h : exec c s = .next t) (hquiet : s.Quiet) (hown : ¬ OwnEffect c s t) :
    (s.drainTx = none → t.drainTx = none) ∧ (s.feedTx = none → t.feedTx = none) := by
  cases exec_next_cases h with
  | own h => exact absurd h hown
  | alone h =>
    rw [State.settle_of_quiet hquiet] at h
    refine ⟨fun hnone => DrainFollows.eq_none ?_, fun hnone => ?_⟩
    · exact hnone ▸ h.sendsOn
    · obtain hsame | hended := h.feedTx
      · exact hsame.trans hnone
      · exact hended
  | beside h =>
    rw [State.found_of_quiet hquiet] at h
    refine ⟨fun hnone => DrainFollows.eq_none ?_, fun hnone => ?_⟩
    · exact hnone ▸ h.sendsOn
    · obtain hsame | hended := h.feedTx
      · exact hsame.trans hnone
      · exact hended

theorem FeedChoice.starter_frame (k : FeedChoice) (lost : Nat) : (k.frame lost).starter = k.starter := by cases k <;> rfl

end

/-- R112 to R114: the transmission that an own step starts on the drain link is the one that the arbiter's order names. -/
theorem OwnEffect.drainStart {s u : State} {c : Instr} (h : OwnEffect c s u) (hfree : s.drainTx = none) (hstarted : u.drainTx ≠ none) :
    ∃ k, s.drainDecision = some k ∧ c = k.starter ∧ u = s.decideDrain ∧ s.HasFrame k := by
  cases h with
  | expiry v hphase hdue => exact absurd (s.expire_drainTx v ▸ hfree) hstarted
  | settled hphase hsettled => exact absurd (s.carrierUp_drainTx ▸ hfree) hstarted
  | drain k hdecision hframe => exact ⟨k, hdecision, rfl, rfl, hframe⟩
  | feed k hdecision => exact absurd (s.decideFeed_drainTx ▸ hfree) hstarted

/-- R170, R171: the transmission that an own step starts on the feed link is the one that the arbiter takes. -/
theorem OwnEffect.feedStart {s u : State} {c : Instr} (h : OwnEffect c s u) (hfree : s.feedTx = none) (hstarted : u.feedTx ≠ none) :
    ∃ k, s.feedDecision = some k ∧ c = k.starter ∧ u = s.decideFeed := by
  cases h with
  | expiry v hphase hdue => exact absurd (s.expire_feedTx v ▸ hfree) hstarted
  | settled hphase hsettled => exact absurd (s.carrierUp_feedTx ▸ hfree) hstarted
  | drain k hdecision hframe => exact absurd (s.decideDrain_feedTx ▸ hfree) hstarted
  | feed k hdecision => exact ⟨k, hdecision, rfl, rfl⟩

/-- Settles O43: only an own step starts a transmission where nothing is owed, and each own step carries out its arbiter's decision. -/
theorem startsFollowTheArbiters : Obligations.StartsFollowTheArbiters := by
  intro c s u h howed
  have heffect : OwnEffect c s u ∨ (s.drainTx = none → u.drainTx = none) ∧ (s.feedTx = none → u.feedTx = none) := by
    obtain hown | hquiet := howed
    · exact .inl (.of_exec hown h)
    · by_cases hown : OwnEffect c s u
      · exact .inl hown
      · exact .inr (starts_nothing_of_quiet h hquiet hown)
  obtain hown | hnothing := heffect
  case inr => exact ⟨fun hfree hstarted => absurd (hnothing.1 hfree) hstarted, fun hfree hstarted => absurd (hnothing.2 hfree) hstarted⟩
  refine ⟨fun hfree hstarted => ?_, fun hfree hstarted => ?_⟩
  · obtain ⟨k, hdecision, rfl, rfl, hframe⟩ := hown.drainStart hfree hstarted
    refine ⟨(State.drainDecision_eq_some.1 hdecision).1, ?_⟩
    cases k with
    | noteDone i =>
      rw [State.decideDrain_of_noteDone hdecision]
      exact .inl ⟨i, rfl, (State.drainDecision_noteDone.1 hdecision).2, rfl⟩
    | noteRefused i =>
      obtain ⟨-, hrefused, hdone⟩ := State.drainDecision_noteRefused.1 hdecision
      rw [State.decideDrain_of_noteRefused hdecision]
      exact .inr (.inl ⟨i, rfl, hrefused, hdone, rfl⟩)
    | forwardNote n =>
      obtain ⟨-, hforward, hdone, hrefused⟩ := State.drainDecision_forwardNote.1 hdecision
      rw [State.decideDrain_of_forwardNote hdecision]
      exact .inr (.inr (.inl ⟨n, rfl, hforward, hdone, hrefused, rfl⟩))
    | data choice =>
      obtain ⟨-, hnotes, hserves⟩ := State.drainDecision_data.1 hdecision
      obtain ⟨record, hrecord⟩ := Option.ne_none_iff_exists'.1 (hframe choice rfl)
      rw [State.decideDrain_of_data hdecision hrecord]
      exact .inr (.inr (.inr ⟨hnotes, rfl, choice.stream, choice.streamClass, choice.credits, hserves, record, hrecord,
        State.setStream_drainTx _ _ _⟩))
  · obtain ⟨k, hdecision, rfl, rfl⟩ := hown.feedStart hfree hstarted
    obtain ⟨hfeedFree, hsends⟩ := State.feedDecision_eq_some.1 hdecision
    refine ⟨hfeedFree, k.frame s.events.lost, ?_, hsends, (k.starter_frame _).symm⟩
    rw [State.decideFeed_of_some hdecision, State.startFeed_feedTx]

end Sys2Proof.Machine
end

section
/-!
The laws of the running part in three groups, each with the part of the state that it reads: the stream table, the custody of cells and
records, and the links with the note and request slots.
-/

namespace Sys2Proof.Machine

/-! ### The laws in groups -/

/-- R7, R11 to R14, R61, R88: the laws of the stream table. -/
structure State.TableLaw (s : State) : Prop where
  streams : ∀ t, (s.stream t).Law t s.carrier
  map : ∀ d t, s.mapped d = some t ↔ (s.stream t).state ≠ .closed ∧ (s.stream t).config.drainTag = d

/-- R27, R32, R34, R35: the laws of custody. -/
structure State.CustodyLaw (s : State) : Prop where
  cells : s.CellLaw
  records : s.RecordLaw
  occupancy : ∀ t, (s.stream t).occupancy = cellsOf (s.stream t).queue + s.fillingCells t
  filling : ∀ r, s.fillingRecord = some r → r.serial = none ∧ r.Law
  transmission : s.TransmissionLaw

/-- R102, R106, R107, R121, R135, R137, R145 to R148: the laws of the links and of the note and request slots. -/
structure State.LinkLaw (s : State) : Prop where
  sending : s.drainTx ≠ none → s.carrier = .up
  reception : s.drainRx.Taken → s.carrier = .up
  pin : s.Awake → (s.carrierPin = true ↔ s.carrier ≠ .down)
  forwardNote : s.ForwardNoteLaw
  backNote : s.BackNoteLaw
  slots : SlotsInOrder s.slots
  engine : s.resetPending = false → s.slots.any Slot.isExecuting = false → ∀ x ∈ s.slots, ∃ r, x = .answering r
  response : ∀ r, s.feedTx = some (.response r) → oldestAnswer s.slots = some r

theorem State.law_iff {s : State} :
    s.Law ↔ s.TableLaw ∧ s.CustodyLaw ∧ s.LinkLaw ∧ (s.tickOwes = true → s.atTick = true) where
  mp h := ⟨⟨h.streams, h.map⟩, ⟨h.cells, h.records, h.occupancy, h.filling, h.transmission⟩,
    ⟨h.sending, h.reception, h.pin, h.forwardNote, h.backNote, h.slots, h.engine, h.response⟩, h.atTick⟩
  mpr := fun ⟨ht, hc, hl, ha⟩ =>
    { streams := ht.streams, map := ht.map, cells := hc.cells, records := hc.records, occupancy := hc.occupancy
      filling := hc.filling, transmission := hc.transmission, sending := hl.sending, reception := hl.reception, pin := hl.pin
      forwardNote := hl.forwardNote, backNote := hl.backNote, slots := hl.slots, engine := hl.engine, response := hl.response
      atTick := ha }

/-! ### What each group reads -/

/-- What the laws of a stream read of its record: not the counters, the budget, nor the flow state of a stream that is not CLOSED. -/
structure StreamCore where
  state : StreamState
  queue : List FrameRecord
  head : Serial
  cursor : Serial
  reach : Serial
  tail : Serial
  held : Bool
  timer : Timer
  closeRequested : Bool
  drainTag : DrainTag
  flow : FlowState

def Stream.core (x : Stream) : StreamCore :=
  { state := x.state, queue := x.queue, head := x.head, cursor := x.cursor, reach := x.reach, tail := x.tail, held := x.held
    timer := x.timer, closeRequested := x.closeRequested, drainTag := x.config.drainTag
    flow := if x.state = .closed then x.flow else .go }

/-- What the laws of the stream table read. -/
def State.table (s : State) : Carrier × (DrainTag → Option Tag) × (Tag → StreamCore) :=
  (s.carrier, s.mapped, fun t => (s.stream t).core)

/-- What the laws of custody read. -/
def State.custodyView (s : State) :
    List Nat × List Nat × Option FrameRecord × Option DrainTransmission × (Tag → List FrameRecord × Nat) :=
  (s.pool.freeCells, s.pool.freeRecords, s.fillingRecord, s.drainTx, fun t => ((s.stream t).queue, (s.stream t).occupancy))

/-- What the laws of the links and slots read. -/
def State.links (s : State) :
    Carrier × Option DrainTransmission × DrainReceiver × Phase × ResetPin × Bool × NoteSlot × NoteSlot × Option FeedFrame × List Slot × Bool :=
  (s.carrier, s.drainTx, s.drainRx, s.phase, s.resetPin, s.carrierPin, s.notes.forward, s.notes.back, s.feedTx, s.slots, s.resetPending)

section
variable {s u : State} {x y : Stream} {t : Tag} {c : Carrier}

theorem Stream.Law.of_core (h : x.Law t c) (hcore : y.core = x.core) : y.Law t c := by
  obtain ⟨config, state, occupancy, queue, head, cursor, reach, tail, held, flow, sentFlow, overrun, timer, budget, closeRequested,
    counters⟩ := y
  simp only [Stream.core, StreamCore.mk.injEq] at hcore
  obtain ⟨rfl, rfl, rfl, rfl, rfl, rfl, rfl, rfl, rfl, -, hflow⟩ := hcore
  refine ⟨⟨h.window.serials, h.window.tail, h.window.cursor, h.window.reach, h.window.bound, h.window.window⟩,
    ⟨h.timer.running, h.timer.frozen, h.timer.armed⟩, fun hclosed => ?_, h.draining, h.closeRequested, h.held, h.records⟩
  have hlaw := h.closed hclosed
  refine ⟨hlaw.queue, hlaw.cursor, hlaw.reach, hlaw.tail, hlaw.timer, hlaw.held, ?_⟩
  rw [if_pos hclosed, if_pos hclosed] at hflow
  exact hflow.trans hlaw.flow

theorem State.TableLaw.congr (h : s.TableLaw) (htable : u.table = s.table) : u.TableLaw := by
  simp only [State.table, Prod.mk.injEq, funext_iff] at htable
  obtain ⟨hcarrier, hmapped, hcore⟩ := htable
  refine ⟨fun t => hcarrier ▸ (h.streams t).of_core (hcore t), fun d t => ?_⟩
  have hstate : (u.stream t).state = (s.stream t).state := congrArg StreamCore.state (hcore t)
  have htag : (u.stream t).config.drainTag = (s.stream t).config.drainTag := congrArg StreamCore.drainTag (hcore t)
  rw [hmapped, hstate, htag, h.map]

/-- The resident frames of every stream. -/
def State.resident (s : State) : List FrameRecord := allTags.flatMap fun t => (s.stream t).queue

theorem State.heldRecords_eq (s : State) : s.heldRecords = s.fillingRecord.toList ++ s.resident ++ s.deferredRecord.toList := by
  rw [State.heldRecords, State.streams_toList, List.flatMap_map]
  rfl

theorem State.CustodyLaw.congr (h : s.CustodyLaw) (hview : u.custodyView = s.custodyView) : u.CustodyLaw := by
  simp only [State.custodyView, Prod.mk.injEq, funext_iff] at hview
  obtain ⟨hcells, hrecords, hfilling, htx, hstream⟩ := hview
  have hqueue := fun t => (hstream t).1
  have hheld : u.heldRecords = s.heldRecords := by
    simp only [State.heldRecords_eq, State.resident, State.deferredRecord, hfilling, htx, hqueue]
  refine ⟨?_, ?_, fun t => ?_, fun r hr => h.filling r (hfilling ▸ hr), fun record d x hx => ?_⟩
  · rw [State.CellLaw, hheld, hcells]
    exact h.cells
  · rw [State.RecordLaw, hheld, hrecords]
    exact h.records
  · rw [(hstream t).2, hqueue, h.occupancy t]
    simp only [State.fillingCells, hfilling]
  · rw [hqueue]
    exact h.transmission record d x (htx ▸ hx)

theorem State.LinkLaw.congr (h : s.LinkLaw) (hlinks : u.links = s.links) : u.LinkLaw := by
  simp only [State.links, Prod.mk.injEq] at hlinks
  obtain ⟨hcarrier, htx, hrx, hphase, hpin, hcarrierPin, hforward, hback, hfeed, hslots, hpending⟩ := hlinks
  have hawake : u.Awake ↔ s.Awake := by simp only [State.Awake, hphase, hpin]
  refine ⟨?_, ?_, ?_, ?_, ?_, ?_, ?_, ?_⟩
  · rw [htx, hcarrier]
    exact h.sending
  · rw [hrx, hcarrier]
    exact h.reception
  · rw [hawake, hcarrierPin, hcarrier]
    exact h.pin
  · unfold State.ForwardNoteLaw
    rw [hforward, htx]
    exact h.forwardNote
  · unfold State.BackNoteLaw
    rw [hback, hfeed]
    exact h.backNote
  · rw [hslots]
    exact h.slots
  · rw [hslots, hpending]
    exact h.engine
  · rw [hslots, hfeed]
    exact h.response

/-- Everything that the laws read but the mark of the last tick. -/
def State.LawSame (s u : State) : Prop := u.table = s.table ∧ u.custodyView = s.custodyView ∧ u.links = s.links

theorem State.LawSame.trans {v : State} (h : s.LawSame u) (h' : u.LawSame v) : s.LawSame v :=
  ⟨h'.1.trans h.1, h'.2.1.trans h.2.1, h'.2.2.trans h.2.2⟩

theorem State.LawSame.refl (s : State) : s.LawSame s := ⟨rfl, rfl, rfl⟩

/-! ### Operations that the laws do not see -/

theorem State.lawSame_updateStream {f : Stream → Stream} (hcore : (f (s.stream t)).core = (s.stream t).core)
    (hoccupancy : (f (s.stream t)).occupancy = (s.stream t).occupancy) : s.LawSame (s.updateStream t f) := by
  have hstream : ∀ v, ((s.updateStream t f).stream v).core = (s.stream v).core ∧
      ((s.updateStream t f).stream v).occupancy = (s.stream v).occupancy := by
    intro v
    by_cases hv : v = t
    · subst hv
      rw [State.stream_updateStream_self]
      exact ⟨hcore, hoccupancy⟩
    · rw [State.stream_updateStream_ne _ _ hv]
      exact ⟨rfl, rfl⟩
  have hqueue : ∀ v, ((s.updateStream t f).stream v).queue = (s.stream v).queue := fun v => congrArg StreamCore.queue (hstream v).1
  refine ⟨?_, ?_, ?_⟩
  · simp only [State.table, (hstream _).1]
    rfl
  · simp only [State.custodyView, (hstream _).2, hqueue]
    rfl
  · rfl

theorem State.lawSame_raise (s : State) (e : EventRecord) : s.LawSame (s.raise e) := by
  rw [State.raise_eq]
  exact .refl s

theorem State.lawSame_evaluatePool (s : State) : s.LawSame s.evaluatePool := by
  rw [State.evaluatePool_eq]
  exact .refl s

theorem State.lawSame_evaluatePoolFrom (s : State) (n : Nat) : s.LawSame (s.evaluatePoolFrom n) := by
  unfold State.evaluatePoolFrom
  split
  · exact .refl s
  · exact s.lawSame_evaluatePool

theorem State.lawSame_countStream (s : State) (t : Tag) (f : StreamCounters → StreamCounters) : s.LawSame (s.countStream t f) :=
  State.lawSame_updateStream rfl rfl

end

end Sys2Proof.Machine
end

section
/-!
What the changes of a stream's record leave of its laws (R11 to R14, R61, R88).
-/

namespace Sys2Proof.Machine

/-! ### Serial arithmetic (R60) -/

theorem Serial.distance_lt (a b : Serial) : Serial.distance a b < 4096 := BitVec.isLt _

theorem Serial.distance_eq_zero {a b : Serial} (h : Serial.distance a b = 0) : b = a := by
  unfold Serial.distance at h
  bv_omega

theorem Serial.distance_inj {a b c : Serial} (h : Serial.distance a b = Serial.distance a c) : b = c := by
  unfold Serial.distance at h
  bv_omega

/-- Seen from a head k further, every distance of at least k is k less. -/
theorem Serial.distance_advance {a b : Serial} {k : Nat} (h : k ≤ Serial.distance a b) :
    Serial.distance (a + BitVec.ofNat 12 k) b = Serial.distance a b - k := by
  have hlt := Serial.distance_lt a b
  have hk : (BitVec.ofNat 12 k).toNat = k := by
    rw [BitVec.toNat_ofNat]
    omega
  unfold Serial.distance at *
  generalize BitVec.ofNat 12 k = y at *
  subst hk
  bv_omega

theorem Serial.add_distance (a b : Serial) : a + BitVec.ofNat 12 (Serial.distance a b) = b := by
  unfold Serial.distance
  rw [BitVec.ofNat_toNat, BitVec.setWidth_eq]
  bv_omega

/-! ### Window laws (R61, R69) -/

section
variable {x y : Stream} {t : Tag} {c d : Carrier}

/-- The pointers and the queue alone decide; a cursor brought back to head keeps the law. -/
theorem Stream.WindowLaw.of_eq (h : x.WindowLaw) (hqueue : y.queue = x.queue) (hhead : y.head = x.head)
    (hcursor : y.cursor = x.cursor ∨ y.cursor = x.head) (hreach : y.reach = x.reach) (htail : y.tail = x.tail) : y.WindowLaw := by
  refine ⟨by rw [hqueue, hhead, h.serials], by rw [hhead, htail, hqueue, h.tail], ?_, ?_, by rw [hqueue]; exact h.bound, ?_⟩
  · obtain hcursor | hcursor := hcursor
    · have hcursors := h.cursor
      unfold Stream.inWindow Stream.started at *
      rwa [hhead, hcursor, hreach]
    · unfold Stream.inWindow
      rw [hcursor, hhead, Serial.distance_self]
      exact Nat.zero_le _
  · have hreaches := h.reach
    unfold Stream.started at *
    rwa [hhead, hreach, hqueue]
  · have hwindow := h.window
    unfold Stream.started at *
    rwa [hhead, hreach]

theorem Stream.WindowLaw.of_collapsed {serial : Serial} (hqueue : y.queue = []) (hhead : y.head = serial) (hcursor : y.cursor = serial)
    (hreach : y.reach = serial) (htail : y.tail = serial) : y.WindowLaw := by
  refine ⟨by rw [hqueue]; rfl, by rw [hhead, htail, hqueue, Serial.distance_self]; rfl, ?_, ?_, by rw [hqueue]; exact Nat.zero_le _, ?_⟩
  all_goals
    simp only [Stream.inWindow, Stream.started, hhead, hcursor, hreach, Serial.distance_self]
    omega

/-- R80: frames that lie before reach leave the queue from the front. -/
theorem Stream.WindowLaw.released (h : x.WindowLaw) {k : Nat} (hk : k ≤ x.started) (hqueue : y.queue = x.queue.drop k)
    (hhead : y.head = x.head + BitVec.ofNat 12 k) (hreach : y.reach = x.reach) (htail : y.tail = x.tail)
    (hcursor : y.inWindow ≤ y.started) : y.WindowLaw := by
  have hstarted : y.started = x.started - k := by
    unfold Stream.started at *
    rw [hhead, hreach, Serial.distance_advance hk]
  have hreaches := h.reach
  have hlength : y.queue.length = x.queue.length - k := by rw [hqueue, List.length_drop]
  refine ⟨?_, ?_, hcursor, by omega, ?_, ?_⟩
  · rw [hlength, hqueue, List.map_drop, h.serials, ← List.map_drop, List.range_eq_range', List.drop_range', Nat.zero_add, Nat.mul_one,
      List.range'_eq_map_range, List.map_map, hhead]
    refine List.map_congr_left fun i _ => ?_
    simp only [Function.comp_apply, BitVec.ofNat_add, BitVec.add_assoc]
  · rw [hhead, htail, Serial.distance_advance (by rw [h.tail]; omega), h.tail, hlength]
  · have hbound := h.bound
    omega
  · have hwindow := h.window
    omega

/-- R31: a frame joins the queue under the tail's serial. -/
theorem Stream.WindowLaw.append (h : x.WindowLaw) (hroom : x.queue.length < 2048) (record : FrameRecord) : (x.append record).WindowLaw := by
  have htail : Serial.distance x.head (x.tail + 1#12) = x.queue.length + 1 := by
    rw [Serial.distance_succ (by rw [h.tail]; omega), h.tail]
  have hserial : x.tail = x.head + BitVec.ofNat 12 x.queue.length := by rw [← h.tail, Serial.add_distance]
  have hreaches := h.reach
  refine ⟨?_, ?_, h.cursor, ?_, ?_, h.window⟩
  · simp only [Stream.append, List.map_append, h.serials, List.length_append, List.length_singleton, List.range_succ, List.map_cons,
      List.map_nil, hserial]
  · simp only [Stream.append, List.length_append, List.length_singleton]
    exact htail
  · simp only [Stream.append, List.length_append, List.length_singleton, Stream.started] at hreaches ⊢
    omega
  · simp only [Stream.append, List.length_append, List.length_singleton]
    omega

/-- R61: an empty queue has all pointers at head. -/
theorem Stream.WindowLaw.pointers_of_empty (h : x.WindowLaw) (hqueue : x.queue = []) :
    x.cursor = x.head ∧ x.reach = x.head ∧ x.tail = x.head := by
  have hreach := h.reach
  have hcursor := h.cursor
  have htail := h.tail
  rw [hqueue, List.length_nil] at hreach htail
  have hstarted : x.started = 0 := by omega
  have hinWindow : x.inWindow = 0 := by omega
  exact ⟨Serial.distance_eq_zero hinWindow, Serial.distance_eq_zero hstarted, Serial.distance_eq_zero htail⟩

theorem Stream.WindowLaw.inWindow_of_empty (h : x.WindowLaw) (hqueue : x.queue = []) : x.inWindow = 0 := by
  have hreach := h.reach
  have hcursor := h.cursor
  rw [hqueue, List.length_nil] at hreach
  omega

/-- R61, R63: a stream whose cursor is not at its tail has the frame of the cursor's serial. -/
theorem Stream.WindowLaw.frameAtCursor (h : x.WindowLaw) (hcursor : x.cursor ≠ x.tail) :
    ∃ record, x.frameAtCursor = some record ∧ record ∈ x.queue ∧ record.serial = some x.cursor := by
  have hlt : x.inWindow < x.queue.length := by
    have hcursors := h.cursor
    have hreaches := h.reach
    have hne : x.inWindow ≠ x.queue.length := fun he => hcursor (Serial.distance_inj (he.trans h.tail.symm))
    omega
  refine ⟨x.queue[x.inWindow], List.getElem?_eq_getElem hlt, List.getElem_mem hlt, ?_⟩
  have hserial : (x.queue.map fun r => r.serial)[x.inWindow]? = some (some x.cursor) := by
    rw [h.serials, List.getElem?_map, List.getElem?_range hlt, Option.map_some, Stream.inWindow, Serial.add_distance]
  simpa [List.getElem?_map, List.getElem?_eq_getElem hlt] using hserial

/-- R63, R114: an eligible stream's frame starts. -/
theorem Stream.WindowLaw.startFrame (h : x.WindowLaw) (hcursor : x.cursor ≠ x.tail) (hwindow : x.inWindow < 256) :
    x.startFrame.WindowLaw ∧ 0 < x.startFrame.inWindow := by
  have hcursors := h.cursor
  have hreaches := h.reach
  have hbound := h.bound
  have hmax := h.window
  have hne : x.inWindow ≠ x.queue.length := fun he => hcursor (Serial.distance_inj (he.trans h.tail.symm))
  have hinWindow : x.startFrame.inWindow = x.inWindow + 1 :=
    Serial.distance_succ (show x.inWindow < 4095 by omega)
  have hstarted : x.startFrame.started = if x.cursor = x.reach then x.started + 1 else x.started := by
    unfold Stream.startFrame Stream.started
    dsimp only
    split
    · exact Serial.distance_succ (show x.started < 4095 by omega)
    · rfl
  have hsame : x.cursor = x.reach ↔ x.inWindow = x.started :=
    ⟨fun he => congrArg (Serial.distance x.head) he, fun he => Serial.distance_inj he⟩
  simp only [hsame] at hstarted
  refine ⟨⟨h.serials, h.tail, ?_, ?_, h.bound, ?_⟩, by omega⟩
  · rw [hinWindow, hstarted]
    split <;> omega
  · rw [hstarted]
    show _ ≤ x.queue.length
    split <;> omega
  · rw [hstarted]
    split <;> omega

/-! ### Timer laws (R88) -/

theorem Stream.timerLaw_of_idle (h : x.timer = .idle) : x.TimerLaw c := by
  refine ⟨fun hr => ?_, fun n hn => ?_, fun hne => absurd h hne⟩
  · rw [h] at hr
    cases hr
  · rw [h] at hn
    cases hn

/-- R89: a timer that is loaded while the carrier is UP, on an OPEN or DRAINING stream with frames in the window. -/
theorem Stream.timerLaw_of_loaded {timeout : Nat} (h : x.timer = Timer.load timeout x.held) (hlive : x.state.live = true)
    (hwindow : 0 < x.inWindow) : x.TimerLaw .up := by
  unfold Timer.load at h
  refine ⟨fun hr => ⟨?_, rfl⟩, fun n hn => .inl ?_, fun _ => ⟨hlive, hwindow⟩⟩
  · by_contra hheld
    rw [if_pos (Bool.eq_true_of_not_eq_false hheld)] at h
    rw [h] at hr
    cases hr
  · by_contra hheld
    rw [if_neg hheld] at h
    rw [h] at hn
    cases hn

/-- R88: a timer that is not IDLE shows that its stream is OPEN or DRAINING. -/
theorem Stream.Law.live_of_timer (h : x.Law t c) (htimer : x.timer ≠ .idle) : x.state = .opened ∨ x.state = .draining :=
  (StreamState.live_iff x).1 (h.timer.armed htimer).1

/-! ### The laws of a stream's record -/

/-- The laws but that of the timer, where the record changes neither in its queue nor in its pointers, but for a rewind to head. -/
theorem Stream.Law.of_eq (h : x.Law t c) (hqueue : y.queue = x.queue) (hhead : y.head = x.head)
    (hcursor : y.cursor = x.cursor ∨ y.cursor = x.head) (hreach : y.reach = x.reach) (htail : y.tail = x.tail)
    (htimer : y.TimerLaw d) (hclosed : y.state ≠ .closed) (hdraining : y.state = .draining → x.queue ≠ [])
    (hclose : y.closeRequested = true ↔ y.state = .draining) (hheld : y.held = true → d = .up) : y.Law t d where
  window := h.window.of_eq hqueue hhead hcursor hreach htail
  timer := htimer
  closed hc := absurd hc hclosed
  draining hd := hqueue ▸ hdraining hd
  closeRequested := hclose
  held := hheld
  records := hqueue ▸ h.records

theorem Stream.Law.expired (h : x.Law t c) (hdue : x.timer = .due) : x.expired.Law t c := by
  have htimer : x.timer ≠ .idle := by rw [hdue]; exact Timer.noConfusion
  have hopen : x.state ≠ .closed := by
    obtain hs | hs := h.live_of_timer htimer <;> rw [hs] <;> exact StreamState.noConfusion
  unfold Stream.expired
  dsimp only
  split
  · exact h.of_eq rfl rfl (.inr rfl) rfl rfl (Stream.timerLaw_of_idle rfl) hopen h.draining h.closeRequested h.held
  · exact h.of_eq rfl rfl (.inl rfl) rfl rfl (Stream.timerLaw_of_idle rfl) StreamState.noConfusion nofun ⟨nofun, nofun⟩ h.held

/-- R88, R102: with the carrier not UP a stream with an IDLE timer keeps its laws whatever the carrier does. -/
theorem Stream.Law.of_carrier (h : x.Law t c) (htimer : x.TimerLaw d) (hheld : x.held = true → d = .up) : x.Law t d :=
  { h with timer := htimer, held := hheld }

theorem Stream.Law.restore (h : x.Law t c) : x.restore.Law t .up := by
  unfold Stream.restore
  split
  · next hrestored =>
    have hopen : x.state ≠ .closed := by
      intro hs
      simp [Stream.restored, hs, StreamState.live] at hrestored
    exact h.of_eq rfl rfl (.inr rfl) rfl rfl (Stream.timerLaw_of_idle rfl) hopen h.draining h.closeRequested fun _ => rfl
  · next hrestored =>
    have hidle : x.timer = .idle := by
      by_contra htimer
      obtain ⟨hlive, hwindow⟩ := h.timer.armed htimer
      have hempty : x.queue = [] := by simpa [Stream.restored, hlive] using hrestored
      rw [h.window.inWindow_of_empty hempty] at hwindow
      exact absurd hwindow (Nat.lt_irrefl 0)
    exact h.of_carrier (Stream.timerLaw_of_idle hidle) fun _ => rfl

/-- R88: the timer alone changes, on a stream that keeps its laws; a CLOSED stream's is IDLE. -/
theorem Stream.Law.setTimer (h : x.Law t c) {timer : Timer} {held : Bool}
    (htimer : ({ x with timer := timer, held := held } : Stream).TimerLaw d) (hheld : held = true → d = .up)
    (hclosed : x.state = .closed → timer = .idle ∧ held = false) : ({ x with timer := timer, held := held } : Stream).Law t d where
  window := ⟨h.window.serials, h.window.tail, h.window.cursor, h.window.reach, h.window.bound, h.window.window⟩
  timer := htimer
  closed hc := ⟨(h.closed hc).queue, (h.closed hc).cursor, (h.closed hc).reach, (h.closed hc).tail, (hclosed hc).1, (hclosed hc).2,
    (h.closed hc).flow⟩
  draining := h.draining
  closeRequested := h.closeRequested
  held := hheld
  records := h.records

theorem Stream.Law.timer_idle_of_closed (h : x.Law t c) (hc : x.state = .closed) : x.timer = .idle := (h.closed hc).timer

theorem Stream.Law.carrierLost (h : x.Law t c) (hdue : x.timer ≠ .due) : x.carrierLost.Law t .down := by
  refine h.setTimer ⟨fun hr => ?_, fun n _ => .inr Carrier.noConfusion, fun hne => ?_⟩ nofun fun hc => ?_
  · cases htimer : x.timer <;> simp [htimer, Timer.freeze, Timer.isRunning] at hr hdue
  · refine h.timer.armed fun hidle => hne ?_
    dsimp only
    rw [hidle]
    rfl
  · rw [h.timer_idle_of_closed hc]
    exact ⟨rfl, rfl⟩

theorem Stream.Law.hold (h : x.Law t .up) (hdue : x.timer ≠ .due) (hopen : x.state ≠ .closed) : x.hold.Law t .up := by
  unfold Stream.hold
  split
  · exact h
  · refine h.setTimer ⟨fun hr => ?_, fun n _ => .inl rfl, fun hne => ?_⟩ (fun _ => rfl) fun hc => absurd hc hopen
    · cases htimer : x.timer <;> simp [htimer, Timer.freeze, Timer.isRunning] at hr hdue
    · refine h.timer.armed fun hidle => hne ?_
      dsimp only
      rw [hidle]
      rfl

theorem Stream.Law.resume (h : x.Law t .up) (hopen : x.state ≠ .closed) : x.resume.Law t .up := by
  unfold Stream.resume
  split
  · refine h.setTimer ⟨fun _ => ⟨rfl, rfl⟩, fun n hn => ?_, fun hne => ?_⟩ (fun _ => rfl) fun hc => absurd hc hopen
    · cases htimer : x.timer <;> simp [htimer, Timer.unfreeze] at hn
    · refine h.timer.armed fun hidle => hne ?_
      dsimp only
      rw [hidle]
      rfl
  · exact h

theorem Stream.Law.tick (h : x.Law t c) : ({ x with timer := x.timer.tick } : Stream).Law t c.tick := by
  have hup : c = .up → c.tick = .up := fun hc => by rw [hc]; rfl
  have hnotUp : c ≠ .up → c.tick ≠ .up := by
    cases c with
    | settling n =>
      rw [Carrier.tick]
      split <;> simp
    | down => exact fun _ => Carrier.noConfusion
    | settled => exact fun _ => Carrier.noConfusion
    | up => exact fun hne => absurd rfl hne
  have hrunning : x.timer.tick.isRunning = x.timer.isRunning := by
    cases x.timer with
    | running n =>
      show Timer.isRunning (if _ then _ else _) = _
      split <;> rfl
    | idle => rfl
    | due => rfl
    | frozen n => rfl
  have hfrozen : ∀ n, x.timer.tick = .frozen n → x.timer = .frozen n := by
    intro n hn
    cases htimer : x.timer with
    | running m =>
      rw [htimer, Timer.tick] at hn
      split at hn <;> cases hn
    | idle => rw [htimer] at hn; cases hn
    | due => rw [htimer] at hn; cases hn
    | frozen m => rw [htimer] at hn; exact hn
  refine h.setTimer (held := x.held) ⟨fun hr => ?_, fun n hn => ?_, fun hne => ?_⟩ (fun hheld => hup (h.held hheld)) fun hc => ?_
  · obtain ⟨hheld, hcarrier⟩ := h.timer.running (hrunning ▸ hr)
    exact ⟨hheld, hup hcarrier⟩
  · exact (h.timer.frozen n (hfrozen n hn)).imp id hnotUp
  · refine h.timer.armed fun hidle => hne ?_
    dsimp only
    rw [hidle]
    rfl
  · rw [h.timer_idle_of_closed hc]
    exact ⟨rfl, (h.closed hc).held⟩

theorem Stream.Law.completed (h : x.Law t .up) : x.completed.Law t .up := by
  unfold Stream.completed
  split
  · next hloads =>
    simp only [Bool.and_eq_true, decide_eq_true_eq] at hloads
    obtain ⟨⟨hlive, hwindow⟩, -⟩ := hloads
    have hopen : x.state ≠ .closed := fun hs => by rw [hs] at hlive; cases hlive
    exact h.setTimer (held := x.held) (Stream.timerLaw_of_loaded (timeout := x.config.ackTimeout) rfl hlive hwindow) (fun _ => rfl)
      fun hc => absurd hc hopen
  · exact h

/-- R14: a stream that is not CLOSED enters HALTED. -/
theorem Stream.Law.halted (h : x.Law t c) (hclosed : y.state = .halted) (hqueue : y.queue = x.queue) (hhead : y.head = x.head)
    (hcursor : y.cursor = x.cursor) (hreach : y.reach = x.reach) (htail : y.tail = x.tail) (htimer : y.timer = .idle)
    (hclose : y.closeRequested = false) (hheld : y.held = x.held) : y.Law t c :=
  h.of_eq hqueue hhead (.inl hcursor) hreach htail (Stream.timerLaw_of_idle htimer) (by rw [hclosed]; exact StreamState.noConfusion)
    (by rw [hclosed]; exact nofun) (by rw [hclosed, hclose]; exact ⟨nofun, nofun⟩) (by rw [hheld]; exact h.held)

theorem Stream.Law.startDrain (h : x.Law t c) (hqueue : x.queue ≠ []) : x.startDrain.Law t c := by
  refine h.of_eq rfl rfl (.inl rfl) rfl rfl ⟨h.timer.running, h.timer.frozen, fun hne => ⟨rfl, (h.timer.armed hne).2⟩⟩
    StreamState.noConfusion (fun _ => hqueue) ⟨fun _ => rfl, fun _ => rfl⟩ h.held

theorem Stream.Law.restart (h : x.Law t c) (hhalted : x.state = .halted) : x.restart.Law t c := by
  refine h.of_eq rfl rfl (.inr rfl) rfl rfl (Stream.timerLaw_of_idle rfl) StreamState.noConfusion nofun ⟨fun hclose => ?_, nofun⟩ h.held
  exact absurd (h.closeRequested.1 hclose) (by rw [hhalted]; exact StreamState.noConfusion)

/-- R11: a stream that has no resident frame enters CLOSED. -/
theorem Stream.closing_law (hqueue : x.queue = []) (hcursor : x.cursor = x.head) (hreach : x.reach = x.head) (htail : x.tail = x.head) :
    x.closing.Law t c where
  window := .of_collapsed hqueue rfl hcursor hreach htail
  timer := Stream.timerLaw_of_idle rfl
  closed _ := ⟨hqueue, hcursor, hreach, htail, rfl, rfl, rfl⟩
  draining := nofun
  closeRequested := ⟨nofun, nofun⟩
  held := nofun
  records r hr := by
    have hmem : r ∈ x.queue := hr
    rw [hqueue] at hmem
    cases hmem

theorem Stream.Law.opening (h : x.Law t c) (hclosed : x.state = .closed) (serial : Serial) {flow : FlowState} :
    ({ x.opening serial with flow := flow } : Stream).Law t c where
  window := .of_collapsed (h.closed hclosed).queue rfl rfl rfl rfl
  timer := Stream.timerLaw_of_idle rfl
  closed := nofun
  draining := nofun
  closeRequested := ⟨fun hclose => absurd (h.closeRequested.1 hclose) (by rw [hclosed]; exact StreamState.noConfusion), nofun⟩
  held := h.held
  records := h.records

theorem Stream.Law.append (h : x.Law t c) (hopen : x.state = .opened) (hroom : x.queue.length < 2048) {record : FrameRecord}
    (hstream : record.stream = t) (hrecord : record.Law) : (x.append record).Law t c where
  window := h.window.append hroom record
  timer := ⟨h.timer.running, h.timer.frozen, h.timer.armed⟩
  closed hc := absurd (hopen.symm.trans hc) StreamState.noConfusion
  draining hd := absurd (hopen.symm.trans hd) StreamState.noConfusion
  closeRequested := h.closeRequested
  held := h.held
  records r hr := by
    obtain hr | hr := List.mem_append.1 hr
    · exact h.records r hr
    · rw [List.mem_singleton.1 hr]
      exact ⟨hstream, hrecord.lengthPos, hrecord.lengthMax, hrecord.chain⟩

theorem Stream.Law.startFrame (h : x.Law t .up) (hlive : x.state.live = true) (hcursor : x.cursor ≠ x.tail) (hwindow : x.inWindow < 256) :
    x.startFrame.Law t .up := by
  obtain ⟨hlaw, hpos⟩ := h.window.startFrame hcursor hwindow
  have hopen : x.state ≠ .closed := fun hs => by rw [hs] at hlive; cases hlive
  exact ⟨hlaw, ⟨h.timer.running, h.timer.frozen, fun _ => ⟨hlive, hpos⟩⟩, fun hc => absurd hc hopen, h.draining, h.closeRequested,
    h.held, h.records⟩

end

end Sys2Proof.Machine
end

section
/-!
The laws of the stream table from step to step (R7, R11, R13, R61, R80, R88).
-/

namespace Sys2Proof.Machine

/-! ### Releases (R72, R76, R80, R83) -/

/-- The stream's record after a release of k frames, with its pointers and its timer as the step leaves them, keeps the window and the
timer's conditions. -/
structure Stream.ReleaseKeeps (x : Stream) (k : Nat) (after : Stream) (c : Carrier) : Prop where
  window : ({ after with queue := x.queue.drop k } : Stream).WindowLaw
  timer : after.TimerLaw c
  state : after.state = x.state
  held : after.held = x.held
  closeRequested : after.closeRequested = x.closeRequested
  drainTag : after.config.drainTag = x.config.drainTag

section
variable {s u : State} {x : Stream} {t v : Tag} {c : Carrier} {serial : Serial}

theorem Stream.Law.timer_idle_of_not_live (h : x.Law t c) (hlive : ¬ x.Live) : x.timer = .idle := by
  by_contra htimer
  exact hlive (h.live_of_timer htimer)

/-- R72, R73: an ACK that is progress. -/
theorem Stream.Law.acknowledged_keeps (h : x.Law t .up) (hprogress : Serial.distance x.head serial < x.started) :
    x.ReleaseKeeps (Serial.distance x.head serial + 1) (x.acknowledged serial) .up := by
  have hhead : serial + 1#12 = x.head + BitVec.ofNat 12 (Serial.distance x.head serial + 1) := by
    rw [BitVec.ofNat_add, ← BitVec.add_assoc, Serial.add_distance]
  have hcursors := h.window.cursor
  have hdistance : ∀ b, Serial.distance x.head serial + 1 ≤ Serial.distance x.head b →
      Serial.distance (serial + 1#12) b = Serial.distance x.head b - (Serial.distance x.head serial + 1) := fun b hb => by
    rw [hhead, Serial.distance_advance hb]
  have hinWindow : (x.acknowledged serial).inWindow ≤ (x.acknowledged serial).started := by
    unfold Stream.acknowledged Stream.inWindow Stream.started at *
    dsimp only
    split
    · rw [Serial.distance_self]
      exact Nat.zero_le _
    · rw [hdistance _ (by omega), hdistance _ (by omega)]
      omega
  refine ⟨h.window.released (k := Serial.distance x.head serial + 1) hprogress rfl hhead rfl rfl hinWindow, ?_, rfl, rfl, rfl, rfl⟩
  by_cases hlive : x.Live
  · by_cases hpos : 0 < (x.acknowledged serial).inWindow
    · refine Stream.timerLaw_of_loaded (timeout := x.config.ackTimeout) ?_ ((StreamState.live_iff x).2 hlive) hpos
      exact (if_pos hlive).trans (if_pos hpos)
    · exact Stream.timerLaw_of_idle ((if_pos hlive).trans (if_neg hpos))
  · exact Stream.timerLaw_of_idle ((if_neg hlive).trans (h.timer_idle_of_not_live hlive))

/-- R76, R78: an accepted REPLAY after head. -/
theorem Stream.Law.replayed_keeps (h : x.Law t c) (haccepted : Serial.distance x.head serial ≤ x.started) :
    x.ReleaseKeeps (Serial.distance x.head serial) (x.replayed serial) c := by
  have hinWindow : (x.replayed serial).inWindow ≤ (x.replayed serial).started := by
    unfold Stream.replayed Stream.inWindow
    rw [Serial.distance_self]
    exact Nat.zero_le _
  refine ⟨h.window.released haccepted rfl (Serial.add_distance _ _).symm rfl rfl hinWindow, ?_, rfl, rfl, rfl, rfl⟩
  by_cases hlive : x.Live
  · exact Stream.timerLaw_of_idle (if_pos hlive)
  · exact Stream.timerLaw_of_idle ((if_neg hlive).trans (h.timer_idle_of_not_live hlive))

/-- R83, R85: every frame released, and all pointers brought to one serial. -/
theorem Stream.collapse_keeps (x : Stream) (serial : Serial) (c : Carrier) : x.ReleaseKeeps x.queue.length (x.collapse serial) c :=
  ⟨.of_collapsed List.drop_length rfl rfl rfl rfl, Stream.timerLaw_of_idle rfl, rfl, rfl, rfl, rfl⟩

/-- The record that a release leaves, where its stream does not close. -/
theorem Stream.ReleaseKeeps.law {k : Nat} {after : Stream} (h : x.ReleaseKeeps k after c) (hlaw : x.Law t c) (hopen : x.state ≠ .closed)
    (hstays : x.state = .draining → x.queue.drop k ≠ []) (occupancy : Nat) (flow : FlowState) :
    ({ after with queue := x.queue.drop k, occupancy := occupancy, flow := flow } : Stream).Law t c where
  window := ⟨h.window.serials, h.window.tail, h.window.cursor, h.window.reach, h.window.bound, h.window.window⟩
  timer := ⟨h.timer.running, h.timer.frozen, h.timer.armed⟩
  closed hc := absurd (h.state.symm.trans hc) hopen
  draining hd := hstays (h.state.symm.trans hd)
  closeRequested := by
    dsimp only
    rw [h.state, h.closeRequested]
    exact hlaw.closeRequested
  held := by
    dsimp only
    rw [h.held]
    exact hlaw.held
  records r hr := hlaw.records r (List.mem_of_mem_drop hr)

/-- The record that a release leaves, where the last frame of a DRAINING stream goes and it closes. -/
theorem Stream.ReleaseKeeps.closed_law {k : Nat} {after : Stream} (h : x.ReleaseKeeps k after c) (hempty : x.queue.drop k = [])
    (occupancy : Nat) :
    ({ after with
        queue := x.queue.drop k, occupancy := occupancy, state := .closed, held := false, timer := .idle, closeRequested := false
        flow := .go } : Stream).Law t c := by
  obtain ⟨hcursor, hreach, htail⟩ := h.window.pointers_of_empty hempty
  exact Stream.closing_law (x := { after with queue := x.queue.drop k, occupancy := occupancy }) hempty hcursor hreach htail

/-! ### Steps of the table -/

/-- R7: a step that closes some streams takes their entries from the map and keeps the others. -/
theorem State.TableLaw.of_step (h : s.TableLaw) (closes : Tag → Prop) (hlaw : ∀ t, (u.stream t).Law t u.carrier)
    (hclosed : ∀ t, (u.stream t).state = .closed ↔ (s.stream t).state = .closed ∨ closes t)
    (htag : ∀ t, (u.stream t).config.drainTag = (s.stream t).config.drainTag)
    (hmapped : ∀ d t, u.mapped d = some t ↔ s.mapped d = some t ∧ ¬ closes t) : u.TableLaw :=
  ⟨hlaw, fun d t => by rw [hmapped, h.map, ne_eq, ne_eq, hclosed, htag]; tauto⟩

/-- Steps that keep the map, the drain tags and which streams are CLOSED. -/
theorem State.TableLaw.of_streams (h : s.TableLaw) (hlaw : ∀ t, (u.stream t).Law t u.carrier)
    (hclosed : ∀ t, (u.stream t).state = .closed ↔ (s.stream t).state = .closed)
    (htag : ∀ t, (u.stream t).config.drainTag = (s.stream t).config.drainTag) (hmapped : ∀ d, u.mapped d = s.mapped d) : u.TableLaw :=
  h.of_step (fun _ => False) hlaw (fun t => by rw [hclosed, or_false]) htag fun d t => by rw [hmapped, not_false_eq_true, and_true]

/-- Such a step on one stream. -/
theorem State.TableLaw.of_stream (h : s.TableLaw) (hcarrier : u.carrier = s.carrier) (hmapped : ∀ d, u.mapped d = s.mapped d)
    (hothers : OtherStreams s u v) (hlaw : (u.stream v).Law v s.carrier)
    (hclosed : (u.stream v).state = .closed ↔ (s.stream v).state = .closed)
    (htag : (u.stream v).config.drainTag = (s.stream v).config.drainTag) : u.TableLaw := by
  have hcase : ∀ {P : Tag → Prop}, P v → (∀ w, w ≠ v → P w) → ∀ w, P w := fun hv hw w => by
    by_cases he : w = v
    · exact he ▸ hv
    · exact hw w he
  refine h.of_streams (hcase (hcarrier ▸ hlaw) fun w hw => ?_) (hcase hclosed fun w hw => ?_) (hcase htag fun w hw => ?_) hmapped
  · rw [hothers w hw, hcarrier]
    exact h.streams w
  · rw [hothers w hw]
  · rw [hothers w hw]

theorem State.TableLaw.setStream (h : s.TableLaw) {x : Stream} (hlaw : x.Law v s.carrier)
    (hclosed : x.state = .closed ↔ (s.stream v).state = .closed) (htag : x.config.drainTag = (s.stream v).config.drainTag) :
    (s.setStream v x).TableLaw :=
  h.of_stream (s.setStream_carrier v x) (fun _ => rfl) (fun w hw => State.stream_setStream_ne s x hw)
    (by rwa [State.stream_setStream_self]) (by rwa [State.stream_setStream_self]) (by rwa [State.stream_setStream_self])

theorem State.TableLaw.updateStream (h : s.TableLaw) {f : Stream → Stream} (hlaw : (f (s.stream v)).Law v s.carrier)
    (hclosed : (f (s.stream v)).state = .closed ↔ (s.stream v).state = .closed)
    (htag : (f (s.stream v)).config.drainTag = (s.stream v).config.drainTag) : (s.updateStream v f).TableLaw :=
  h.setStream hlaw hclosed htag

theorem State.TableLaw.mapStreams (h : s.TableLaw) {f : Stream → Stream} {c : Carrier}
    (hlaw : ∀ t, (f (s.stream t)).Law t c) (hclosed : ∀ x, (f x).state = x.state) (hconfig : ∀ x, (f x).config = x.config)
    (hcarrier : u.carrier = c) (hstream : ∀ t, u.stream t = f (s.stream t)) (hmapped : ∀ d, u.mapped d = s.mapped d) : u.TableLaw := by
  refine h.of_streams (fun t => ?_) (fun t => ?_) (fun t => ?_) hmapped
  · rw [hstream, hcarrier]
    exact hlaw t
  · rw [hstream, hclosed]
  · rw [hstream, hconfig]

/-- R7: a drain tag names one stream. -/
theorem State.TableLaw.eq_of_drainTag (h : s.TableLaw) {w : Tag} (hv : (s.stream v).state ≠ .closed) (hw : (s.stream w).state ≠ .closed)
    (htag : (s.stream w).config.drainTag = (s.stream v).config.drainTag) : w = v :=
  Option.some.inj (((h.map _ w).2 ⟨hw, htag⟩).symm.trans ((h.map _ v).2 ⟨hv, rfl⟩))

/-- R7, R11: a stream closes, and its entry leaves the map. -/
theorem State.TableLaw.of_closes (h : s.TableLaw) (hcarrier : u.carrier = s.carrier) (hopen : (s.stream v).state ≠ .closed)
    (hmapped : ∀ d, u.mapped d = if d = (s.stream v).config.drainTag then none else s.mapped d)
    (hothers : OtherStreams s u v) (hclosed : (u.stream v).state = .closed)
    (htag : (u.stream v).config.drainTag = (s.stream v).config.drainTag) (hlaw : (u.stream v).Law v s.carrier) : u.TableLaw := by
  refine h.of_step (· = v) (fun w => ?_) (fun w => ?_) (fun w => ?_) fun d w => ?_
  · by_cases hw : w = v
    · subst hw
      exact hcarrier ▸ hlaw
    · rw [hothers w hw, hcarrier]
      exact h.streams w
  · by_cases hw : w = v
    · subst hw
      simp only [hclosed, or_true]
    · simp only [hothers w hw, hw, or_false]
  · by_cases hw : w = v
    · subst hw
      exact htag
    · rw [hothers w hw]
  · rw [hmapped]
    split
    · next hd =>
      subst hd
      rw [h.map]
      exact ⟨nofun, fun hw => absurd (h.eq_of_drainTag hopen hw.1.1 hw.1.2) hw.2⟩
    · next hd =>
      refine ⟨fun hw => ⟨hw, ?_⟩, fun hw => hw.1⟩
      rintro rfl
      exact hd ((h.map d w).1 hw).2.symm

/-- R11: CLOSE-STREAM on an OPEN stream without resident frames. -/
theorem State.TableLaw.enterClosed (h : s.TableLaw) (hopen : (s.stream v).state ≠ .closed) (hqueue : (s.stream v).queue = []) :
    (s.enterClosed v).TableLaw := by
  obtain ⟨hcursor, hreach, htail⟩ := (h.streams v).window.pointers_of_empty hqueue
  have hself : (s.enterClosed v).stream v = (s.stream v).closing := s.stream_enterClosed_self v
  refine h.of_closes (s.enterClosed_carrier v) hopen (s.mapped_enterClosed v)
    (fun w hw => (s.stream_enterClosed v w).trans (if_neg hw)) ?_ ?_ ?_
  · rw [hself]
    rfl
  · rw [hself]
    rfl
  · rw [hself]
    exact Stream.closing_law hqueue hcursor hreach htail

/-- R7, R10: a CLOSED stream opens, and its drain tag enters the map. -/
theorem State.TableLaw.openAt (h : s.TableLaw) (serial : Serial) (hclosed : (s.stream v).state = .closed)
    (hfree : s.mapped (s.stream v).config.drainTag = none) : (s.openAt v serial).TableLaw := by
  refine ⟨fun w => ?_, fun d w => ?_⟩
  · rw [State.stream_openAt, State.openAt_carrier]
    split
    · next hw =>
      subst hw
      exact (h.streams w).opening hclosed serial
    · exact h.streams w
  · rw [State.mapped_openAt, State.stream_openAt]
    by_cases hw : w = v
    · subst hw
      rw [if_pos rfl]
      split
      · next hd => exact ⟨fun _ => ⟨StreamState.noConfusion, hd.symm⟩, fun _ => rfl⟩
      · next hd => exact ⟨fun hmap => absurd hclosed ((h.map d w).1 hmap).1, fun hmap => absurd hmap.2.symm hd⟩
    · rw [if_neg hw, ← h.map]
      split
      · next hd =>
        subst hd
        rw [hfree]
        exact ⟨fun hv => absurd (Option.some.inj hv).symm hw, nofun⟩
      · rfl

/-- R7, R22: WRITE-STREAM replaces a configuration; its drain tag changes only while the stream is CLOSED. -/
theorem State.TableLaw.writeConfig (h : s.TableLaw) {k : StreamConfig}
    (hstate : (s.stream v).state = .closed ∨ k.drainTag = (s.stream v).config.drainTag) : (s.writeConfig v k).TableLaw := by
  rw [State.writeConfig_eq]
  by_cases hclosed : (s.stream v).state = .closed
  · rw [if_pos hclosed]
    have hlaw := h.streams v
    refine ⟨fun w => ?_, fun d w => ?_⟩
    · rw [State.stream_setStream, State.setStream_carrier]
      split
      · next hw =>
        subst hw
        exact ⟨⟨hlaw.window.serials, hlaw.window.tail, hlaw.window.cursor, hlaw.window.reach, hlaw.window.bound, hlaw.window.window⟩,
          ⟨hlaw.timer.running, hlaw.timer.frozen, hlaw.timer.armed⟩, fun hc => ⟨(hlaw.closed hc).queue, (hlaw.closed hc).cursor,
            (hlaw.closed hc).reach, (hlaw.closed hc).tail, (hlaw.closed hc).timer, (hlaw.closed hc).held, (hlaw.closed hc).flow⟩,
          hlaw.draining, hlaw.closeRequested, hlaw.held, hlaw.records⟩
      · exact h.streams w
    · show s.mapped d = some w ↔ _
      rw [State.stream_setStream, h.map]
      split
      · next hw =>
        subst hw
        exact ⟨fun hopen => absurd hclosed hopen.1, fun hopen => absurd hclosed hopen.1⟩
      · rfl
  · refine h.setStream ((h.streams v).of_core ?_) Iff.rfl (hstate.resolve_left hclosed)
    simp only [Stream.core, hclosed, if_false, hstate.resolve_left hclosed]

/-! ### Releases on the table -/

/-- R80, R81: a release step. -/
theorem State.TableLaw.releaseStep (h : s.TableLaw) {k : Nat} {after : Stream} {outcome : BitVec 16}
    (hstep : ReleaseStep s u v k after outcome) (hkeeps : (s.stream v).ReleaseKeeps k after s.carrier)
    (hopen : (s.stream v).state ≠ .closed) : u.TableLaw := by
  have hcarrier : u.carrier = s.carrier := by rw [hstep.frame]
  obtain ⟨-, hothers, hself, -⟩ := hstep
  split at hself
  · next hdrained =>
    obtain ⟨hself, hgone, hentries, -⟩ := hself
    refine h.of_closes hcarrier hopen (fun d => ?_) hothers (by rw [hself]) (by rw [hself]; exact hkeeps.drainTag) ?_
    · split
      · next hd => rw [hd, hgone]
      · next hd => exact hentries d hd
    · rw [hself]
      exact hkeeps.closed_law hdrained.2 _
  · next hstays =>
    obtain ⟨hself, hmap, -⟩ := hself
    refine h.of_stream hcarrier (fun d => by simp only [State.mapped, hmap]) hothers ?_ ?_ ?_
    · rw [hself]
      exact hkeeps.law (h.streams v) hopen (fun hd he => hstays ⟨hd, he⟩) _ _
    · rw [hself]
      dsimp only
      rw [hkeeps.state]
    · rw [hself]
      exact hkeeps.drainTag

/-- R20: CLOSE-STREAM in DISCARD mode. -/
theorem State.TableLaw.discardClose (h : s.TableLaw) (hopen : (s.stream v).state ≠ .closed) : (s.discardClose v).TableLaw := by
  have hself : (s.discardClose v).stream v = (s.stream v).discardClosed := (s.stream_discardClose v v).trans (if_pos rfl)
  have hcarrier : (s.discardClose v).carrier = s.carrier := by
    rw [State.discardClose_eq, State.evaluatePoolFrom_carrier, State.enterClosed_carrier, (s.emptied_released v).rest]
  refine h.of_closes hcarrier hopen (s.mapped_discardClose v) (fun w hw => (s.stream_discardClose v w).trans (if_neg hw)) ?_ ?_ ?_
  · rw [hself]
    rfl
  · rw [hself]
    rfl
  · rw [hself]
    exact Stream.closing_law (x := { s.stream v with
      queue := [], occupancy := (s.stream v).occupancy - cellsOf (s.stream v).queue, head := (s.stream v).tail
      cursor := (s.stream v).tail, reach := (s.stream v).tail }) rfl rfl rfl rfl

/-- R85: what DISCARD-ALL makes of a stream's record. -/
theorem Stream.Law.discarded (h : x.Law t c) : x.discarded.Law t c := by
  have hwindow : ∀ y : Stream, y.queue = [] → y.head = x.tail → y.cursor = x.tail → y.reach = x.tail → y.tail = x.tail → y.WindowLaw :=
    fun _ => .of_collapsed
  cases hstate : x.state with
  | closed => rwa [Stream.discarded_closed hstate]
  | opened =>
    rw [Stream.discarded_opened hstate]
    refine ⟨hwindow _ rfl rfl rfl rfl rfl, Stream.timerLaw_of_idle rfl, fun hc => ?_, fun hd => ?_, h.closeRequested, h.held, nofun⟩
    · exact absurd (hstate.symm.trans hc) StreamState.noConfusion
    · exact absurd (hstate.symm.trans hd) StreamState.noConfusion
  | draining =>
    rw [Stream.discarded_draining hstate]
    exact Stream.closing_law (x := x.emptied) rfl rfl rfl rfl
  | halted =>
    rw [Stream.discarded_halted hstate]
    refine ⟨hwindow _ rfl rfl rfl rfl rfl, Stream.timerLaw_of_idle rfl, nofun, nofun, ⟨fun hclose => ?_, nofun⟩, h.held, nofun⟩
    exact absurd (hstate.symm.trans (h.closeRequested.1 hclose)) StreamState.noConfusion

theorem Stream.discarded_state_closed (x : Stream) : x.discarded.state = .closed ↔ x.state = .closed ∨ x.state = .draining := by
  cases hstate : x.state with
  | closed => rw [Stream.discarded_closed hstate, hstate]; simp
  | opened => rw [Stream.discarded_opened hstate]; simp [Stream.emptied, hstate]
  | draining => rw [Stream.discarded_draining hstate]; simp
  | halted => rw [Stream.discarded_halted hstate]; simp

theorem Stream.discarded_config (x : Stream) : x.discarded.config = x.config := by
  unfold Stream.discarded
  split <;> rfl

/-- R85: the streams of a list discarded. -/
theorem State.TableLaw.discardsAll (h : s.TableLaw) {l : List Tag} (hall : s.DiscardsAll u l) : u.TableLaw := by
  have hcarrier : u.carrier = s.carrier := by rw [hall.frame]
  refine h.of_step (fun t => t ∈ l ∧ (s.stream t).state = .draining) (fun t => ?_) (fun t => ?_) (fun t => ?_) fun d t => ?_
  · rw [hcarrier, hall.streams]
    split
    · exact (h.streams t).discarded
    · exact h.streams t
  · rw [hall.streams]
    split
    · next ht => rw [Stream.discarded_state_closed]; simp only [ht, true_and]
    · next ht => simp only [ht, false_and, or_false]
  · rw [hall.streams]
    split
    · rw [Stream.discarded_config]
    · rfl
  · rw [hall.mapped]
    split
    · next hgone =>
      obtain ⟨w, hw, hdraining, htag⟩ := hgone
      refine ⟨nofun, fun ht => absurd ?_ ht.2⟩
      obtain ⟨hopen, htag'⟩ := (h.map d t).1 ht.1
      have htw : t = w := h.eq_of_drainTag (by rw [hdraining]; exact StreamState.noConfusion) hopen (htag'.trans htag.symm)
      rw [htw]
      exact ⟨hw, hdraining⟩
    · next hstays =>
      exact ⟨fun ht => ⟨ht, fun hcloses => hstays ⟨t, hcloses.1, hcloses.2, ((h.map d t).1 ht).2⟩⟩, fun ht => ht.1⟩

end

end Sys2Proof.Machine
end

section
/-!
Custody from step to step (R27, R32 to R35): each cell and each record stays held exactly once.
-/

namespace Sys2Proof.Machine

section
variable {s u : State} {v : Tag} {record : FrameRecord}

theorem cellsOf_append (l m : List FrameRecord) : cellsOf (l ++ m) = cellsOf l + cellsOf m := by simp [cellsOf]

theorem cellsOf_singleton (r : FrameRecord) : cellsOf [r] = r.chain.length := by simp [cellsOf]

theorem State.mem_resident {r : FrameRecord} : r ∈ s.resident ↔ ∃ t, r ∈ (s.stream t).queue := by
  simp [State.resident, List.mem_flatMap, mem_allTags]

/-- R35: records that are held no more go to the back of the free lists with their cells. -/
theorem State.CustodyLaw.of_givenBack (h : s.CustodyLaw) {back : List FrameRecord}
    (hheld : s.heldRecords.Perm (back ++ u.heldRecords))
    (hcells : u.pool.freeCells = s.pool.freeCells ++ back.flatMap fun r => r.chain)
    (hrecords : u.pool.freeRecords = s.pool.freeRecords ++ back.map fun r => r.number) : u.CellLaw ∧ u.RecordLaw := by
  constructor
  · rw [State.CellLaw, hcells, List.append_assoc, ← List.flatMap_append]
    exact ((hheld.symm.flatMap_right _).append_left _).trans h.cells
  · rw [State.RecordLaw, hrecords, List.append_assoc, ← List.map_append]
    exact ((hheld.symm.map _).append_left _).trans h.records

/-! ### Releases (R32 to R34) -/

/-- R35: a record number is held once. -/
theorem State.RecordLaw.held_nodup (h : s.RecordLaw) : (s.heldRecords.map fun r => r.number).Nodup :=
  (List.nodup_append.1 (h.nodup_iff.2 List.nodup_range)).2.1

theorem State.RecordLaw.eq_of_number (h : s.RecordLaw) {r : FrameRecord} (hr : r ∈ s.heldRecords) (hrecord : record ∈ s.heldRecords)
    (hnumber : r.number = record.number) : r = record :=
  List.inj_on_of_nodup_map h.held_nodup hr hrecord hnumber

theorem State.resident_subset_held {r : FrameRecord} (h : r ∈ s.resident) : r ∈ s.heldRecords := by
  rw [State.heldRecords_eq]
  exact List.mem_append_left _ (List.mem_append_right _ h)

/-- R27, R34: a DEFERRED frame is not resident. -/
theorem State.RecordLaw.deferred_not_resident (h : s.RecordLaw) {r : FrameRecord} (hr : r ∈ s.resident)
    (hdeferred : s.deferredRecord = some record) : r.number ≠ record.number := by
  have hnodup := h.held_nodup
  rw [State.heldRecords_eq, List.map_append, List.map_append, List.nodup_append] at hnodup
  obtain ⟨-, -, hdisjoint⟩ := hnodup
  refine hdisjoint _ (List.mem_append_right _ (List.mem_map_of_mem hr)) _ ?_
  rw [hdeferred]
  exact List.mem_singleton.2 rfl

theorem State.sending_data {resident : Bool} {d : DrainTag} {x : Serial} (htx : s.drainTx = some (.data record resident d x)) (n : Nat) :
    s.sending n = (record.number == n) := by
  rw [State.sending, htx]
  rfl

/-- R32: where a resident frame is in transmission by its number, it is the frame that was started, and its mark is set. -/
theorem State.CustodyLaw.sent_of_sending (h : s.CustodyLaw) {r : FrameRecord} (hr : r ∈ s.resident) (hsending : s.sending r.number = true) :
    ∃ d x, s.drainTx = some (.data r true d x) := by
  cases htx : s.drainTx with
  | none => simp [State.sending, htx] at hsending
  | some tx =>
    cases tx with
    | data record resident d x =>
      have hnumber : record.number = r.number := by
        rw [State.sending_data htx] at hsending
        exact beq_iff_eq.1 hsending
      cases resident with
      | false => exact absurd hnumber.symm (h.records.deferred_not_resident hr (by simp [State.deferredRecord, abandonedRecords, htx]))
      | true =>
        have hmem : record ∈ s.resident := State.mem_resident.2 ⟨_, (h.transmission record d x htx).1⟩
        rw [h.records.eq_of_number (State.resident_subset_held hr) (State.resident_subset_held hmem) hnumber.symm]
        exact ⟨d, x, rfl⟩
    | note n => simp [State.sending, htx, DrainTransmission.sends] at hsending
    | noteDone sent tally => simp [State.sending, htx, DrainTransmission.sends] at hsending
    | noteRefused sent tally => simp [State.sending, htx, DrainTransmission.sends] at hsending

/-- R34: of the released frames the one in transmission is DEFERRED afterwards. -/
theorem State.CustodyLaw.deferred_released (h : s.CustodyLaw) {gone : List FrameRecord} (hreleased : ReleasedTo s u gone)
    (hgone : ∀ r ∈ gone, r ∈ s.resident) (hnodup : gone.Nodup) :
    ((gone.filter fun r => s.sending r.number) ++ s.deferredRecord.toList).Perm u.deferredRecord.toList := by
  obtain ⟨-, -, htx⟩ := hreleased
  by_cases hany : (gone.any fun r => s.sending r.number) = true
  · obtain ⟨r, hr, hsending⟩ := List.any_eq_true.1 hany
    obtain ⟨d, x, hdata⟩ := h.sent_of_sending (hgone r hr) hsending
    have hs : s.deferredRecord = none := by simp [State.deferredRecord, abandonedRecords, hdata]
    have hu : u.deferredRecord = some r := by
      rw [State.deferredRecord, htx, if_pos hany, hdata]
      rfl
    rw [hs, hu, Option.toList_none, List.append_nil]
    refine (List.perm_ext_iff_of_nodup (hnodup.filter _) (List.nodup_singleton r)).2 fun q => ?_
    rw [List.mem_filter, List.mem_singleton]
    constructor
    · rintro ⟨hq, hqsending⟩
      obtain ⟨d', x', hdata'⟩ := h.sent_of_sending (hgone q hq) hqsending
      rw [hdata] at hdata'
      cases hdata'
      rfl
    · rintro rfl
      exact ⟨hr, hsending⟩
  · have hnone : (gone.filter fun r => s.sending r.number) = [] := by
      rw [List.filter_eq_nil_iff]
      simpa using hany
    rw [hnone, List.nil_append, State.deferredRecord, State.deferredRecord, htx, if_neg hany]

/-- R33, R34: what is released goes back to the pool, but for the frame in transmission. -/
theorem State.CustodyLaw.held_released (h : s.CustodyLaw) {gone : List FrameRecord} (hreleased : ReleasedTo s u gone)
    (hresident : s.resident.Perm (gone ++ u.resident)) (hfilling : u.fillingRecord = s.fillingRecord) :
    s.heldRecords.Perm ((gone.filter fun r => !s.sending r.number) ++ u.heldRecords) := by
  have hgone : ∀ r ∈ gone, r ∈ s.resident := fun r hr => hresident.mem_iff.2 (List.mem_append_left _ hr)
  have hnodup : gone.Nodup := by
    have hheld := h.records.held_nodup.of_map
    rw [State.heldRecords_eq, List.append_assoc, List.nodup_append, List.nodup_append] at hheld
    obtain ⟨-, ⟨hnodup, -, -⟩, -⟩ := hheld
    exact (List.nodup_append.1 (hresident.nodup_iff.1 hnodup)).1
  have hdeferred := h.deferred_released hreleased hgone hnodup
  have hsplit : gone.Perm ((gone.filter fun r => !s.sending r.number) ++ gone.filter fun r => s.sending r.number) :=
    (List.filter_append_perm (fun r : FrameRecord => s.sending r.number) gone).symm.trans List.perm_append_comm
  rw [State.heldRecords_eq, State.heldRecords_eq, hfilling]
  generalize s.fillingRecord.toList = filling at *
  generalize (gone.filter fun r => !s.sending r.number) = back at *
  generalize (gone.filter fun r => s.sending r.number) = kept at *
  generalize s.deferredRecord.toList = before at *
  generalize u.deferredRecord.toList = after at *
  generalize s.resident = residentBefore at *
  generalize u.resident = residentAfter at *
  calc filling ++ residentBefore ++ before
      _ |>.Perm (filling ++ ((back ++ kept) ++ residentAfter) ++ before) :=
        ((hresident.trans (hsplit.append_right _)).append_left _).append_right _
      _ |>.Perm (back ++ (filling ++ residentAfter ++ (kept ++ before))) := by
        rw [List.perm_iff_count]
        intro a
        simp only [List.count_append]
        omega
      _ |>.Perm (back ++ (filling ++ residentAfter ++ after)) := (hdeferred.append_left _).append_left _

/-- R32 to R34, R80: frames released from any number of streams. -/
theorem State.CustodyLaw.released (h : s.CustodyLaw) {gone : Tag → List FrameRecord} (hreleased : ReleasedTo s u (allTags.flatMap gone))
    (hqueue : ∀ t, (s.stream t).queue = gone t ++ (u.stream t).queue)
    (hoccupancy : ∀ t, (u.stream t).occupancy = (s.stream t).occupancy - cellsOf (gone t))
    (hfilling : u.fillingRecord = s.fillingRecord) : u.CustodyLaw := by
  have hresident : s.resident.Perm (allTags.flatMap gone ++ u.resident) := by
    rw [State.resident, List.flatMap_congr fun t _ => hqueue t]
    exact (List.flatMap_append_perm _ _ _).symm
  obtain ⟨hcells, hrecords⟩ := h.of_givenBack (h.held_released hreleased hresident hfilling) hreleased.1 hreleased.2.1
  refine ⟨hcells, hrecords, fun t => ?_, fun r hr => h.filling r (hfilling ▸ hr), fun record d x htx => ?_⟩
  · have hbefore := h.occupancy t
    rw [hqueue, cellsOf_append] at hbefore
    have hsame : u.fillingCells t = s.fillingCells t := by simp only [State.fillingCells, hfilling]
    rw [hoccupancy, hsame]
    omega
  · have hnotSent : ¬ ((allTags.flatMap gone).any fun r => s.sending r.number) = true := by
      intro hany
      rw [hreleased.2.2, if_pos hany] at htx
      obtain ⟨tx, -, hunmark⟩ := Option.map_eq_some_iff.1 htx
      cases tx <;> cases hunmark
    rw [hreleased.2.2, if_neg hnotSent] at htx
    obtain ⟨hmem, hserial⟩ := h.transmission record d x htx
    rw [hqueue] at hmem
    refine ⟨(List.mem_append.1 hmem).resolve_left fun hgone => hnotSent ?_, hserial⟩
    refine List.any_eq_true.2 ⟨record, List.mem_flatMap.2 ⟨_, mem_allTags _, hgone⟩, ?_⟩
    rw [State.sending_data htx, beq_self_eq_true]

theorem flatMap_single {α : Type} (l : List Tag) (hl : l.Nodup) (hv : v ∈ l) (f : List α) :
    (l.flatMap fun t => if t = v then f else []) = f := by
  induction l with
  | nil => cases hv
  | cons t rest ih =>
    obtain ⟨ht, hrest⟩ := List.nodup_cons.1 hl
    rw [List.flatMap_cons]
    by_cases htv : t = v
    · subst htv
      have hnil : (rest.flatMap fun w => if w = t then f else []) = [] := by
        rw [List.flatMap_eq_nil_iff]
        intro w hw
        rw [if_neg]
        rintro rfl
        exact ht hw
      rw [hnil, if_pos rfl, List.append_nil]
    · rw [if_neg htv, List.nil_append]
      exact ih hrest ((List.mem_cons.1 hv).resolve_left (Ne.symm htv))

/-- R32 to R34, R80: frames released from the front of one stream's queue. -/
theorem State.CustodyLaw.released_stream (h : s.CustodyLaw) {gone : List FrameRecord} (hreleased : ReleasedTo s u gone)
    (hothers : OtherStreams s u v) (hqueue : (s.stream v).queue = gone ++ (u.stream v).queue)
    (hoccupancy : (u.stream v).occupancy = (s.stream v).occupancy - cellsOf gone)
    (hfilling : u.fillingRecord = s.fillingRecord) : u.CustodyLaw := by
  refine h.released (gone := fun t => if t = v then gone else []) ?_ (fun t => ?_) (fun t => ?_) hfilling
  · rwa [flatMap_single _ allTags_nodup (mem_allTags v)]
  · by_cases ht : t = v
    · rw [if_pos ht, ht, hqueue]
    · rw [if_neg ht, hothers t ht, List.nil_append]
  · by_cases ht : t = v
    · rw [if_pos ht, ht, hoccupancy]
    · rw [if_neg ht, hothers t ht]
      rfl

theorem State.fillingRecord_of_feedRx (h : u.feedRx = s.feedRx) : u.fillingRecord = s.fillingRecord := by
  rw [State.fillingRecord, State.fillingRecord, h]

theorem State.CustodyLaw.releaseStep (h : s.CustodyLaw) {k : Nat} {after : Stream} {outcome : BitVec 16}
    (hstep : ReleaseStep s u v k after outcome) : u.CustodyLaw := by
  have hfilling : u.fillingRecord = s.fillingRecord := State.fillingRecord_of_feedRx (by rw [hstep.frame])
  obtain ⟨hreleased, hothers, hself, -⟩ := hstep
  have hrecord : (u.stream v).queue = (s.stream v).queue.drop k ∧
      (u.stream v).occupancy = (s.stream v).occupancy - cellsOf ((s.stream v).queue.take k) := by
    split at hself
    · rw [hself.1]
      exact ⟨rfl, rfl⟩
    · rw [hself.1]
      exact ⟨rfl, rfl⟩
  exact h.released_stream hreleased hothers (by rw [hrecord.1, List.take_append_drop]) hrecord.2 hfilling

theorem State.CustodyLaw.discardClose (h : s.CustodyLaw) (v : Tag) : (s.discardClose v).CustodyLaw := by
  have hself : (s.discardClose v).stream v = (s.stream v).discardClosed := (s.stream_discardClose v v).trans (if_pos rfl)
  refine h.released_stream (s.discardClose_releasedTo v) (fun w hw => (s.stream_discardClose v w).trans (if_neg hw)) ?_ ?_ ?_
  · rw [hself]
    exact (List.append_nil _).symm
  · rw [hself]
    rfl
  · refine State.fillingRecord_of_feedRx ?_
    rw [State.discardClose_eq, State.evaluatePoolFrom_feedRx, State.enterClosed_feedRx, (s.emptied_released v).rest]

theorem Stream.discarded_queue (x : Stream) :
    x.queue = x.discards ++ x.discarded.queue ∧ x.discarded.occupancy = x.occupancy - cellsOf x.discards := by
  unfold Stream.discards
  cases hstate : x.state with
  | closed =>
    rw [Stream.discarded_closed hstate, if_pos rfl]
    exact ⟨rfl, rfl⟩
  | opened =>
    rw [Stream.discarded_opened hstate, if_neg StreamState.noConfusion]
    exact ⟨(List.append_nil _).symm, rfl⟩
  | draining =>
    rw [Stream.discarded_draining hstate, if_neg StreamState.noConfusion]
    exact ⟨(List.append_nil _).symm, rfl⟩
  | halted =>
    rw [Stream.discarded_halted hstate, if_neg StreamState.noConfusion]
    exact ⟨(List.append_nil _).symm, rfl⟩

theorem State.CustodyLaw.discardsAll (h : s.CustodyLaw) (hall : s.DiscardsAll u allTags) : u.CustodyLaw := by
  refine h.released hall.released (fun t => ?_) (fun t => ?_) (State.fillingRecord_of_feedRx (by rw [hall.frame]))
  · rw [hall.streams, if_pos (mem_allTags t)]
    exact ((s.stream t).discarded_queue).1
  · rw [hall.streams, if_pos (mem_allTags t)]
    exact ((s.stream t).discarded_queue).2

/-! ### The end of a transmission (R34, R64, R105) -/

/-- R34, R64, R105: a transmission ends; a frame that is no longer resident goes back to the pool. -/
theorem State.CustodyLaw.transmissionEnds (h : s.CustodyLaw) (htx : u.drainTx = none)
    (hcells : u.pool.freeCells = s.pool.freeCells ++ (abandonedRecords s.drainTx).flatMap fun r => r.chain)
    (hrecords : u.pool.freeRecords = s.pool.freeRecords ++ (abandonedRecords s.drainTx).map fun r => r.number)
    (hfilling : u.fillingRecord = s.fillingRecord) (hqueue : ∀ t, (u.stream t).queue = (s.stream t).queue)
    (hoccupancy : ∀ t, (u.stream t).occupancy = (s.stream t).occupancy) : u.CustodyLaw := by
  have hheld : s.heldRecords.Perm (abandonedRecords s.drainTx ++ u.heldRecords) := by
    have hu : u.deferredRecord = none := by rw [State.deferredRecord, htx]; rfl
    have hs : s.deferredRecord.toList = abandonedRecords s.drainTx := by
      unfold State.deferredRecord abandonedRecords
      split
      · split <;> rfl
      all_goals rfl
    have hresident : u.resident = s.resident := List.flatMap_congr fun t _ => hqueue t
    rw [State.heldRecords_eq, State.heldRecords_eq, hu, hs, hresident, hfilling, Option.toList_none, List.append_nil]
    exact List.perm_append_comm
  obtain ⟨hcellLaw, hrecordLaw⟩ := h.of_givenBack hheld hcells hrecords
  refine ⟨hcellLaw, hrecordLaw, fun t => ?_, fun r hr => h.filling r (hfilling ▸ hr), fun record d x hx => ?_⟩
  · rw [hoccupancy, hqueue, h.occupancy]
    simp only [State.fillingCells, hfilling]
  · rw [htx] at hx
    cases hx

/-- R108, R109: another transmission that leaves no record DEFERRED, or the same frame with another tally. -/
theorem State.CustodyLaw.of_drainTx (h : s.CustodyLaw) (hdeferred : u.deferredRecord = s.deferredRecord) (hlaw : u.TransmissionLaw)
    (hcells : u.pool.freeCells = s.pool.freeCells) (hrecords : u.pool.freeRecords = s.pool.freeRecords)
    (hfilling : u.fillingRecord = s.fillingRecord) (hqueue : ∀ t, (u.stream t).queue = (s.stream t).queue)
    (hoccupancy : ∀ t, (u.stream t).occupancy = (s.stream t).occupancy) : u.CustodyLaw := by
  have hheld : u.heldRecords = s.heldRecords := by
    simp only [State.heldRecords_eq, State.resident, hdeferred, hfilling, hqueue]
  refine ⟨?_, ?_, fun t => ?_, fun r hr => h.filling r (hfilling ▸ hr), hlaw⟩
  · rw [State.CellLaw, hheld, hcells]
    exact h.cells
  · rw [State.RecordLaw, hheld, hrecords]
    exact h.records
  · rw [hoccupancy, hqueue, h.occupancy]
    simp only [State.fillingCells, hfilling]

/-! ### Reception (R29 to R31) -/

/-- R30: a reservation that is returned. -/
theorem State.CustodyLaw.reservationEnds (h : s.CustodyLaw) (hrx : s.fillingRecord = some record) (hend : u.fillingRecord = none)
    (hcells : u.pool.freeCells = s.pool.freeCells ++ record.chain) (hrecords : u.pool.freeRecords = s.pool.freeRecords ++ [record.number])
    (htx : u.drainTx = s.drainTx) (hqueue : ∀ t, (u.stream t).queue = (s.stream t).queue)
    (hoccupancy : ∀ t, (u.stream t).occupancy =
      if t = record.stream then (s.stream t).occupancy - record.chain.length else (s.stream t).occupancy) : u.CustodyLaw := by
  have hheld : s.heldRecords.Perm ([record] ++ u.heldRecords) := by
    simp only [State.heldRecords_eq, State.resident, State.deferredRecord, htx, hqueue, hrx, hend, Option.toList_some, Option.toList_none,
      List.nil_append, List.append_assoc]
    exact .refl _
  obtain ⟨hcellLaw, hrecordLaw⟩ := h.of_givenBack hheld (by simpa using hcells) (by simpa using hrecords)
  refine ⟨hcellLaw, hrecordLaw, fun t => ?_, fun r hr => absurd (hend.symm.trans hr) nofun, fun r d x hx => ?_⟩
  · rw [hoccupancy, hqueue]
    have hbefore := h.occupancy t
    simp only [State.fillingCells, hrx, hend] at hbefore ⊢
    split
    · next ht =>
      rw [if_pos ht.symm] at hbefore
      omega
    · next ht =>
      rw [if_neg (Ne.symm ht)] at hbefore
      exact hbefore
  · rw [hqueue]
    exact h.transmission r d x (htx ▸ hx)

/-- R31, R51: the frame in reception joins its stream's queue. -/
theorem State.CustodyLaw.frameJoins (h : s.CustodyLaw) (hrx : s.fillingRecord = some record) (hend : u.fillingRecord = none) (serial : Serial)
    (hcells : u.pool.freeCells = s.pool.freeCells) (hrecords : u.pool.freeRecords = s.pool.freeRecords) (htx : u.drainTx = s.drainTx)
    (hself : (u.stream record.stream).queue = (s.stream record.stream).queue ++ [{ record with serial := some serial }])
    (hothers : ∀ t, t ≠ record.stream → (u.stream t).queue = (s.stream t).queue)
    (hoccupancy : ∀ t, (u.stream t).occupancy = (s.stream t).occupancy) : u.CustodyLaw := by
  have hresident : u.resident.Perm ([{ record with serial := some serial }] ++ s.resident) := by
    have hqueue : ∀ t, (u.stream t).queue = (s.stream t).queue ++
        if t = record.stream then [{ record with serial := some serial }] else [] := fun t => by
      by_cases ht : t = record.stream
      · rw [if_pos ht, ht, hself]
      · rw [if_neg ht, hothers t ht, List.append_nil]
    rw [State.resident, List.flatMap_congr fun t _ => hqueue t]
    refine (List.flatMap_append_perm _ _ _).symm.trans ?_
    rw [flatMap_single _ allTags_nodup (mem_allTags _)]
    exact List.perm_append_comm
  have hheld : u.heldRecords.Perm ([{ record with serial := some serial }] ++ s.resident ++ s.deferredRecord.toList) := by
    simp only [State.heldRecords_eq, State.deferredRecord, htx, hend, Option.toList_none, List.nil_append]
    exact hresident.append_right _
  have hsame : s.heldRecords = [record] ++ s.resident ++ s.deferredRecord.toList := by rw [State.heldRecords_eq, hrx]; rfl
  refine ⟨?_, ?_, fun t => ?_, fun r hr => absurd (hend.symm.trans hr) nofun, fun r d x hx => ?_⟩
  · have hlaw := h.cells
    rw [State.CellLaw, hsame] at hlaw
    rw [State.CellLaw, hcells]
    exact ((hheld.flatMap_right _).append_left _).trans hlaw
  · have hlaw := h.records
    rw [State.RecordLaw, hsame] at hlaw
    rw [State.RecordLaw, hrecords]
    exact ((hheld.map _).append_left _).trans hlaw
  · have hbefore := h.occupancy t
    rw [hoccupancy]
    simp only [State.fillingCells, hrx, hend] at hbefore ⊢
    by_cases ht : t = record.stream
    · subst ht
      rw [if_pos rfl] at hbefore
      rw [hself, cellsOf_append, cellsOf_singleton]
      exact hbefore
    · rw [if_neg (Ne.symm ht)] at hbefore
      rw [hothers t ht]
      exact hbefore
  · obtain ⟨hmem, hserial⟩ := h.transmission r d x (htx ▸ hx)
    refine ⟨?_, hserial⟩
    by_cases ht : r.stream = record.stream
    · rw [ht, hself]
      exact List.mem_append_left _ (ht ▸ hmem)
    · rw [hothers _ ht]
      exact hmem

/-- R29: a reservation. -/
theorem State.CustodyLaw.reserved (h : s.CustodyLaw) (hrx : s.fillingRecord = none) (hnow : u.fillingRecord = some record)
    (hcells : s.pool.freeCells = record.chain ++ u.pool.freeCells) (hrecords : s.pool.freeRecords = record.number :: u.pool.freeRecords)
    (htx : u.drainTx = s.drainTx) (hqueue : ∀ t, (u.stream t).queue = (s.stream t).queue)
    (hoccupancy : ∀ t, (u.stream t).occupancy =
      if t = record.stream then (s.stream t).occupancy + record.chain.length else (s.stream t).occupancy)
    (hserial : record.serial = none) (hrecord : record.Law) : u.CustodyLaw := by
  have hheld : u.heldRecords = record :: s.heldRecords := by
    simp only [State.heldRecords_eq, State.resident, State.deferredRecord, htx, hqueue, hrx, hnow, Option.toList_some, Option.toList_none,
      List.nil_append, List.cons_append]
  refine ⟨?_, ?_, fun t => ?_, fun r hr => ?_, fun r d x hx => ?_⟩
  · have hlaw := h.cells
    rw [State.CellLaw, hcells] at hlaw
    rw [State.CellLaw, hheld, List.flatMap_cons, ← List.append_assoc]
    exact (List.perm_append_comm.append_right _).trans hlaw
  · have hlaw := h.records
    rw [State.RecordLaw, hrecords, List.cons_append] at hlaw
    rw [State.RecordLaw, hheld, List.map_cons]
    exact List.perm_middle.trans hlaw
  · rw [hoccupancy, hqueue]
    have hbefore := h.occupancy t
    simp only [State.fillingCells, hrx, hnow] at hbefore ⊢
    by_cases ht : t = record.stream
    · rw [if_pos ht, if_pos ht.symm]
      omega
    · rw [if_neg ht, if_neg (Ne.symm ht)]
      exact hbefore
  · rw [hnow] at hr
    cases hr
    exact ⟨hserial, hrecord⟩
  · rw [hqueue]
    exact h.transmission r d x (htx ▸ hx)

/-- R35: there are 2,048 records, so while a frame is in reception a queue has room for it. -/
theorem State.CustodyLaw.room (h : s.CustodyLaw) (hrx : s.fillingRecord = some record) (t : Tag) : (s.stream t).queue.length < 2048 := by
  have hlength := h.records.length_eq
  rw [List.length_append, List.length_map, List.length_range, State.heldRecords_eq, hrx, List.length_append, List.length_append] at hlength
  have hqueue : (s.stream t).queue.length ≤ s.resident.length := by
    obtain ⟨before, after, hsplit⟩ := List.append_of_mem (mem_allTags t)
    rw [State.resident, hsplit, List.flatMap_append, List.flatMap_cons, List.length_append, List.length_append]
    omega
  simp only [Option.toList_some, List.length_singleton] at hlength
  omega

end

end Sys2Proof.Machine
end

section
/-!
The request slots in arrival order (R145 to R148), and the laws of the links where one of their parts changes.
-/

namespace Sys2Proof.Machine

/-! ### The slots (R145, R147) -/

/-- R145: slots in arrival order: the ANSWERING ones, the EXECUTING one, the QUEUED ones. -/
def slotList (answers : List Response) (running : Option Request) (waiting : List Request) : List Slot :=
  answers.map Slot.answering ++ (running.toList.map Slot.executing ++ waiting.map Slot.queued)

section
variable {answers : List Response} {running : Option Request} {waiting : List Request}

theorem slotList_cons (a : Response) : slotList (a :: answers) running waiting = .answering a :: slotList answers running waiting := rfl

theorem exists_queued {l : List Slot} (h : ∀ x ∈ l, ∃ r, x = Slot.queued r) : ∃ waiting : List Request, l = waiting.map Slot.queued := by
  induction l with
  | nil => exact ⟨[], rfl⟩
  | cons x rest ih =>
    obtain ⟨r, rfl⟩ := h x List.mem_cons_self
    obtain ⟨waiting, rfl⟩ := ih fun y hy => h y (List.mem_cons_of_mem _ hy)
    exact ⟨r :: waiting, rfl⟩

theorem slotsInOrder_iff {l : List Slot} :
    SlotsInOrder l ↔ ∃ answers running waiting, l = slotList answers running waiting := by
  constructor
  · intro h
    induction l with
    | nil => exact ⟨[], none, [], rfl⟩
    | cons x rest ih =>
      cases x with
      | answering a =>
        obtain ⟨answers, running, waiting, rfl⟩ := ih h
        exact ⟨a :: answers, running, waiting, rfl⟩
      | executing r =>
        obtain ⟨waiting, rfl⟩ := exists_queued h
        exact ⟨[], some r, waiting, rfl⟩
      | queued r =>
        obtain ⟨waiting, rfl⟩ := exists_queued h
        exact ⟨[], none, r :: waiting, rfl⟩
  · rintro ⟨answers, running, waiting, rfl⟩
    induction answers with
    | nil =>
      cases running with
      | none =>
        cases waiting with
        | nil => exact trivial
        | cons r rest => exact fun x hx => (List.mem_map.1 hx).imp fun _ hr => hr.2.symm
      | some r => exact fun x hx => (List.mem_map.1 hx).imp fun _ hr => hr.2.symm
    | cons a rest ih => exact ih

theorem any_isExecuting_slotList : (slotList answers running waiting).any Slot.isExecuting = running.isSome := by
  induction answers with
  | nil => cases running <;> simp [slotList, Slot.isExecuting]
  | cons a rest ih => rw [slotList_cons, List.any_cons, ih]; rfl

theorem oldestAnswer_slotList : oldestAnswer (slotList answers running waiting) = answers.head? := by
  cases answers with
  | nil =>
    rw [List.head?_nil, oldestAnswer_eq_none]
    cases running <;> simp [slotList]
  | cons a rest => rfl

theorem executingRequest_slotList : executingRequest (slotList answers running waiting) = running := by
  induction answers with
  | nil =>
    cases running with
    | some r => rfl
    | none =>
      induction waiting with
      | nil => rfl
      | cons r rest ih => exact ih
  | cons a rest ih => exact ih

theorem takeOldestQueued_slotList (r : Request) :
    takeOldestQueued (slotList answers none (r :: waiting)) = slotList answers (some r) waiting := by
  induction answers with
  | nil => rfl
  | cons a rest ih => exact congrArg (Slot.answering a :: ·) ih

theorem takeOldestQueued_slotList_nil : takeOldestQueued (slotList answers none []) = slotList answers none [] := by
  induction answers with
  | nil => rfl
  | cons a rest ih => exact congrArg (Slot.answering a :: ·) ih

theorem answerExecuting_slotList (response : Response) (r : Request) :
    answerExecuting response (slotList answers (some r) waiting) = slotList (answers ++ [response]) none waiting := by
  induction answers with
  | nil => rfl
  | cons a rest ih => exact congrArg (Slot.answering a :: ·) ih

theorem slotList_append_queued (r : Request) :
    slotList answers running waiting ++ [.queued r] = slotList answers running (waiting ++ [r]) := by
  simp [slotList]

theorem answering_of_slotList : (∀ x ∈ slotList answers none waiting, ∃ r, x = .answering r) ↔ waiting = [] := by
  constructor
  · intro h
    cases waiting with
    | nil => rfl
    | cons r rest =>
      obtain ⟨a, ha⟩ := h (.queued r) (by simp [slotList])
      cases ha
  · rintro rfl x hx
    simp only [slotList, Option.toList_none, List.map_nil, List.append_nil, List.mem_map] at hx
    exact hx.imp fun _ hr => hr.2.symm

/-- R145, R147, R148: the laws of the request slots, read off their list. -/
def SlotLaw (slots : List Slot) (resetPending : Bool) (feedTx : Option FeedFrame) : Prop :=
  ∃ answers running waiting, slots = slotList answers running waiting ∧
    (resetPending = false → running = none → waiting = []) ∧ ∀ r, feedTx = some (.response r) → answers.head? = some r

theorem slotLaw_iff {slots : List Slot} {resetPending : Bool} {feedTx : Option FeedFrame} :
    SlotLaw slots resetPending feedTx ↔ SlotsInOrder slots ∧
      (resetPending = false → slots.any Slot.isExecuting = false → ∀ x ∈ slots, ∃ r, x = .answering r) ∧
      ∀ r, feedTx = some (.response r) → oldestAnswer slots = some r := by
  constructor
  · rintro ⟨answers, running, waiting, rfl, hengine, hresponse⟩
    refine ⟨slotsInOrder_iff.2 ⟨_, _, _, rfl⟩, fun hp hidle => ?_, fun r hr => by rw [oldestAnswer_slotList]; exact hresponse r hr⟩
    rw [any_isExecuting_slotList, Option.isSome_eq_false_iff, Option.isNone_iff_eq_none] at hidle
    subst hidle
    exact answering_of_slotList.2 (hengine hp rfl)
  · rintro ⟨horder, hengine, hresponse⟩
    obtain ⟨answers, running, waiting, rfl⟩ := slotsInOrder_iff.1 horder
    refine ⟨_, _, _, rfl, fun hp hidle => ?_, fun r hr => by rw [← hresponse r hr, oldestAnswer_slotList]⟩
    subst hidle
    exact answering_of_slotList.1 (hengine hp (by rw [any_isExecuting_slotList]; rfl))

/-- R147: the engine takes the oldest QUEUED slot, where it may. -/
theorem slotLaw_engineTake {s : State} (hslots : s.slots = slotList answers running waiting)
    (hresponse : ∀ r, s.feedTx = some (.response r) → answers.head? = some r) :
    SlotLaw s.engineTake.slots s.engineTake.resetPending s.engineTake.feedTx := by
  unfold State.engineTake
  rw [hslots, any_isExecuting_slotList]
  split
  · next hbusy =>
    refine ⟨answers, running, waiting, hslots, fun hp hidle => ?_, hresponse⟩
    simp [hp, hidle] at hbusy
  · next hidle =>
    have hnone : running = none := by
      cases running with
      | none => rfl
      | some r => simp at hidle
    subst hnone
    cases waiting with
    | nil => exact ⟨answers, none, [], takeOldestQueued_slotList_nil, fun _ _ => rfl, hresponse⟩
    | cons r rest => exact ⟨answers, some r, rest, takeOldestQueued_slotList r, fun _ hr => absurd hr (Option.some_ne_none r), hresponse⟩

end

/-! ### Parts of the laws of the links -/

section
variable {s u : State}

theorem State.LinkLaw.slotLaw (h : s.LinkLaw) : SlotLaw s.slots s.resetPending s.feedTx :=
  slotLaw_iff.2 ⟨h.slots, h.engine, h.response⟩

/-- The laws of the links that do not read the request slots. -/
theorem State.LinkLaw.of_slotLaw (hslots : SlotLaw u.slots u.resetPending u.feedTx) (sending : u.drainTx ≠ none → u.carrier = .up)
    (reception : u.drainRx.Taken → u.carrier = .up) (pin : u.Awake → (u.carrierPin = true ↔ u.carrier ≠ .down))
    (forwardNote : u.ForwardNoteLaw) (backNote : u.BackNoteLaw) : u.LinkLaw := by
  obtain ⟨horder, hengine, hresponse⟩ := slotLaw_iff.1 hslots
  exact ⟨sending, reception, pin, forwardNote, backNote, horder, hengine, hresponse⟩

/-- R109, R110: what is in transmission on the drain link while its carrier is UP, with the forward slot. -/
theorem State.LinkLaw.of_drain (h : s.LinkLaw) {tx : Option DrainTransmission} {notes : NoteBlock} (hup : tx ≠ none → s.carrier = .up)
    (hforward : ∀ n, (∃ c, notes.forward = .sending n c) ↔ tx = some (.note n)) (hback : notes.back = s.notes.back) :
    ({ s with drainTx := tx, notes := notes } : State).LinkLaw :=
  .of_slotLaw h.slotLaw hup h.reception h.pin hforward fun n => by
    dsimp only
    rw [hback]
    exact h.backNote n

/-- R137, R171: what is in transmission on the feed link, with the back slot. -/
theorem State.LinkLaw.of_feed (h : s.LinkLaw) {tx : Option FeedFrame} {notes : NoteBlock}
    (hresponse : ∀ r, tx = some (.response r) → oldestAnswer s.slots = some r)
    (hback : ∀ n, (∃ c, notes.back = .sending n c) ↔ tx = some (.note n)) (hforward : notes.forward = s.notes.forward) :
    ({ s with feedTx := tx, notes := notes } : State).LinkLaw :=
  .of_slotLaw (slotLaw_iff.2 ⟨h.slots, h.engine, hresponse⟩) h.sending h.reception h.pin (fun n => by
    dsimp only
    rw [hforward]
    exact h.forwardNote n) hback

theorem State.ForwardNoteLaw.not_sending (h : s.ForwardNoteLaw) (htx : ∀ n, s.drainTx ≠ some (.note n)) (n : Note) (c : Bool) :
    s.notes.forward ≠ .sending n c := fun hs => htx n ((h n).1 ⟨c, hs⟩)

theorem State.BackNoteLaw.not_sending (h : s.BackNoteLaw) (htx : ∀ n, s.feedTx ≠ some (.note n)) (n : Note) (c : Bool) :
    s.notes.back ≠ .sending n c := fun hs => htx n ((h n).1 ⟨c, hs⟩)

/-- R136, R143: the slot of a note whose transmission ends is not SENDING. -/
theorem NoteSlot.complete_not_sending (x : NoteSlot) (n : Note) (c : Bool) : x.complete ≠ .sending n c := by
  cases x with
  | sending m clear =>
    rw [NoteSlot.complete]
    split <;> exact NoteSlot.noConfusion
  | empty => exact NoteSlot.noConfusion
  | waiting m => exact NoteSlot.noConfusion
  | awaitingTaken m => exact NoteSlot.noConfusion

/-- R142: no forward note is SENDING after carrier loss. -/
theorem NoteSlot.carrierLost_not_sending (x : NoteSlot) (n : Note) (c : Bool) : x.carrierLost ≠ .sending n c := by
  cases x with
  | sending m clear =>
    rw [NoteSlot.carrierLost]
    split <;> exact NoteSlot.noConfusion
  | empty => exact NoteSlot.noConfusion
  | waiting m => exact NoteSlot.noConfusion
  | awaitingTaken m => exact NoteSlot.noConfusion

/-- R143: CLEAR-NOTE leaves the same note SENDING, or none. -/
theorem NoteSlot.clear_sending (x : NoteSlot) (n : Note) : (∃ c, x.clear = .sending n c) ↔ ∃ c, x = .sending n c := by
  cases x <;> simp [NoteSlot.clear]

end

end Sys2Proof.Machine
end

section
/-!
The laws under what the part does by itself: expiries, the end of settling, and the two arbiters' starts (R61, R90, R102, R112, R170).
-/

namespace Sys2Proof.Machine

section
variable {s u : State} {v : Tag}

/-- No timer becomes due and no carrier settled in the step from s to u. -/
structure State.OwesNoMore (s u : State) : Prop where
  timer : ∀ t, (u.stream t).timer = .due → (s.stream t).timer = .due
  carrier : u.carrier = .settled → s.carrier = .settled

theorem State.OwesNoMore.tickOwes (h : s.OwesNoMore u) (howes : u.tickOwes = true) : s.tickOwes = true := by
  by_contra hs
  obtain ⟨htimer, hcarrier⟩ := State.tickOwes_eq_false.1 (Bool.eq_false_of_not_eq_true hs)
  refine absurd (State.tickOwes_eq_false.2 ⟨fun t ht => htimer t (h.timer t ht), fun hc => hcarrier (h.carrier hc)⟩) ?_
  rw [howes]
  exact Bool.noConfusion

/-- A step that carries the three groups of laws over, and makes nothing due. -/
theorem State.Law.step (h : s.Law) (htable : u.TableLaw) (hcustody : u.CustodyLaw) (hlinks : u.LinkLaw) (howes : s.OwesNoMore u)
    (htick : u.atTick = s.atTick) : u.Law :=
  State.law_iff.2 ⟨htable, hcustody, hlinks, fun hu => htick.trans (h.atTick (howes.tickOwes hu))⟩

theorem State.Law.tableLaw (h : s.Law) : s.TableLaw := (State.law_iff.1 h).1
theorem State.Law.custodyLaw (h : s.Law) : s.CustodyLaw := (State.law_iff.1 h).2.1
theorem State.Law.linkLaw (h : s.Law) : s.LinkLaw := (State.law_iff.1 h).2.2.1

/-! ### The tick's own steps (R93, R94, R102, R104) -/

theorem Stream.expired_same (x : Stream) :
    x.expired.queue = x.queue ∧ x.expired.occupancy = x.occupancy ∧ x.expired.config = x.config := by
  unfold Stream.expired
  dsimp only
  split <;> exact ⟨rfl, rfl, rfl⟩

theorem State.Law.expire (h : s.Law) (hdue : (s.stream v).timer = .due) : (s.expire v).Law := by
  have hframe := s.expire_frame v
  have hself : (s.expire v).stream v = (s.stream v).expired := s.stream_expire v
  have hothers : OtherStreams s (s.expire v) v := fun w hw => State.stream_expire_ne hw
  have hopen : (s.stream v).state ≠ .closed := by
    intro hclosed
    rw [((h.streams v).closed hclosed).timer] at hdue
    cases hdue
  have hnotClosed : (s.stream v).expired.state ≠ .closed := Stream.expired_state_ne_closed hopen
  obtain ⟨hqueue, hoccupancy, hconfig⟩ := (s.stream v).expired_same
  generalize s.expire v = u at *
  have hcustody : u.custodyView = s.custodyView := by
    have hstream : ∀ t, (u.stream t).queue = (s.stream t).queue ∧ (u.stream t).occupancy = (s.stream t).occupancy := fun t => by
      by_cases ht : t = v
      · subst ht
        rw [hself]
        exact ⟨hqueue, hoccupancy⟩
      · rw [hothers t ht]
        exact ⟨rfl, rfl⟩
    simp only [State.custodyView, (hstream _).1, (hstream _).2]
    rw [hframe]
    rfl
  refine h.step (h.tableLaw.of_stream (by rw [hframe]) (fun d => by rw [hframe]; rfl) hothers ?_ ?_ ?_)
    (h.custodyLaw.congr hcustody) (h.linkLaw.congr (by rw [hframe]; rfl)) ⟨fun t ht => ?_, fun hc => ?_⟩ (by rw [hframe])
  · rw [hself]
    exact (h.streams v).expired hdue
  · rw [hself]
    exact ⟨fun hc => absurd hc hnotClosed, fun hc => absurd hc hopen⟩
  · rw [hself, hconfig]
  · by_cases htv : t = v
    · rw [htv]
      exact hdue
    · rwa [hothers t htv] at ht
  · rw [hframe] at hc
    exact hc

theorem Stream.restore_same (x : Stream) :
    x.restore.queue = x.queue ∧ x.restore.occupancy = x.occupancy ∧ x.restore.config = x.config ∧ x.restore.state = x.state := by
  unfold Stream.restore
  split <;> exact ⟨rfl, rfl, rfl, rfl⟩

theorem Stream.restore_timer (x : Stream) : x.restore.timer = .idle ∨ x.restore.timer = x.timer := by
  unfold Stream.restore
  split
  · exact .inl rfl
  · exact .inr rfl

theorem State.Law.carrierUp (h : s.Law) (hsettled : s.carrier = .settled) : s.carrierUp.Law := by
  have hframe : s.carrierUp = { s with carrier := .up, streams := s.carrierUp.streams, events := s.carrierUp.events } := by
    rw [State.carrierUp_eq]
  have hstream := s.stream_carrierUp
  generalize s.carrierUp = u at *
  have hcarrier : u.carrier = .up := by rw [hframe]
  have hcustody : u.custodyView = s.custodyView := by
    simp only [State.custodyView, hstream, (Stream.restore_same _).1, (Stream.restore_same _).2.1]
    rw [hframe]
    rfl
  refine h.step ?_ (h.custodyLaw.congr hcustody) ?_ ⟨fun t ht => ?_, fun hc => ?_⟩ (by rw [hframe])
  · refine h.tableLaw.mapStreams (fun t => (h.streams t).restore) (fun x => x.restore_same.2.2.2) (fun x => x.restore_same.2.2.1) hcarrier
      hstream fun d => ?_
    rw [hframe]
    rfl
  · refine .of_slotLaw (by rw [hframe]; exact h.linkLaw.slotLaw) (fun _ => hcarrier) (fun _ => hcarrier) (fun hawake => ?_)
      (fun n => by rw [hframe]; exact h.forwardNote n) (fun n => by rw [hframe]; exact h.backNote n)
    have hpin := h.pin (by rw [hframe] at hawake; exact hawake)
    rw [hsettled] at hpin
    have hpresent : u.carrierPin = true := by
      rw [hframe]
      exact hpin.2 Carrier.noConfusion
    rw [hcarrier, hpresent]
    exact ⟨fun _ => Carrier.noConfusion, fun _ => rfl⟩
  · rw [hstream] at ht
    obtain hidle | hsame := (s.stream t).restore_timer
    · rw [hidle] at ht
      cases ht
    · rwa [hsame] at ht
  · rw [hcarrier] at hc
    cases hc

/-! ### Starts (R61, R63, R112, R170) -/

/-- R61, R114: the stream that the drain arbiter serves has a frame at its cursor. -/
theorem State.Law.frameAtCursor (h : s.Law) {k : DataChoice} (hdecision : s.drainDecision = some (.data k)) :
    ∃ record, (s.stream k.stream).frameAtCursor = some record ∧ record ∈ (s.stream k.stream).queue ∧
      record.serial = some (s.stream k.stream).cursor := by
  obtain ⟨-, -, hserves⟩ := State.drainDecision_data.1 hdecision
  obtain ⟨-, -, hcursor, -⟩ := hserves.1.1
  exact (h.streams k.stream).window.frameAtCursor hcursor

theorem State.Law.hasFrame (h : s.Law) {k : DrainChoice} (hdecision : s.drainDecision = some k) : s.HasFrame k := by
  rintro choice rfl
  obtain ⟨record, hrecord, -⟩ := h.frameAtCursor hdecision
  rw [hrecord]
  exact Option.some_ne_none record

theorem State.Law.startData (h : s.Law) (hrange : s.InRange) {k : DataChoice} {record : FrameRecord}
    (hdecision : s.drainDecision = some (.data k)) (hmem : record ∈ (s.stream k.stream).queue)
    (hserial : record.serial = some (s.stream k.stream).cursor) : (s.startData k record).Law := by
  obtain ⟨⟨hawake, hfree, hup⟩, -, hserves⟩ := State.drainDecision_data.1 hdecision
  obtain ⟨hlive, -, hcursor, hwindow⟩ := hserves.1.1
  have hmax : (s.stream k.stream).config.window ≤ 256 := by
    obtain ⟨-, hmax, -⟩ := (StreamConfig.inRange_iff _).1 (hrange.streams k.stream).config
    exact hmax
  have hrecord := ((h.streams k.stream).records record hmem).1
  have hself : (s.startData k record).stream k.stream = (s.stream k.stream).startFrame := State.stream_setStream_self _ _ _
  have hothers : OtherStreams s (s.startData k record) k.stream := fun w hw => State.stream_setStream_ne _ _ hw
  have hstream : ∀ t, ((s.startData k record).stream t).queue = (s.stream t).queue ∧
      ((s.startData k record).stream t).occupancy = (s.stream t).occupancy ∧
      ((s.startData k record).stream t).timer = (s.stream t).timer := fun t => by
    by_cases ht : t = k.stream
    · rw [ht, hself]
      exact ⟨rfl, rfl, rfl⟩
    · rw [hothers t ht]
      exact ⟨rfl, rfl, rfl⟩
  have hfirst := h.streams k.stream
  rw [hup] at hfirst
  refine h.step (h.tableLaw.of_stream rfl (fun _ => rfl) hothers ?_ ?_ ?_) ?_ ?_ ⟨fun t ht => (hstream t).2.2 ▸ ht, fun hc => hc⟩ rfl
  · rw [hself, hup]
    exact hfirst.startFrame ((StreamState.live_iff _).2 hlive) hcursor (Nat.lt_of_lt_of_le hwindow hmax)
  · rw [hself]
    rfl
  · rw [hself]
    rfl
  · refine h.custodyLaw.of_drainTx ?_ ?_ rfl rfl rfl (fun t => (hstream t).1) fun t => (hstream t).2.1
    · rw [State.deferredRecord, State.deferredRecord, hfree]
      rfl
    · intro r d x htx
      cases htx
      rw [(hstream _).1, hrecord]
      exact ⟨hmem, hserial⟩
  · refine .of_slotLaw h.linkLaw.slotLaw (fun _ => hup) h.reception h.pin (fun n => ?_) h.backNote
    have hlaw := h.forwardNote n
    rw [hfree] at hlaw
    exact ⟨fun hn => absurd (hlaw.1 hn) nofun, nofun⟩

/-- R109, R136, R140: a note or an indication starts on the drain link. -/
theorem State.Law.startOnDrain (h : s.Law) {tx : DrainTransmission} {notes : NoteBlock} (hfree : s.drainTx = none)
    (hup : s.carrier = .up) (hdata : ∀ r b d x, tx ≠ .data r b d x)
    (hforward : ∀ n, (∃ c, notes.forward = .sending n c) ↔ some tx = some (.note n)) (hback : notes.back = s.notes.back) :
    ({ s with drainTx := some tx, notes := notes } : State).Law := by
  refine h.step (h.tableLaw.congr rfl) (h.custodyLaw.of_drainTx ?_ ?_ rfl rfl rfl (fun _ => rfl) fun _ => rfl)
    (h.linkLaw.of_drain (fun _ => hup) hforward hback) ⟨fun _ ht => ht, fun hc => hc⟩ rfl
  · rw [State.deferredRecord, State.deferredRecord, hfree]
    cases tx with
    | data r b d x => exact absurd rfl (hdata r b d x)
    | note n => rfl
    | noteDone sent tally => rfl
    | noteRefused sent tally => rfl
  · intro r d x htx
    exact absurd (Option.some.inj htx) (hdata r true d x)

theorem State.Law.decideDrain (h : s.Law) (hrange : s.InRange) : s.decideDrain.Law := by
  cases hdecision : s.drainDecision with
  | none => rwa [State.decideDrain_of_none hdecision]
  | some k =>
    have hfree := (State.drainDecision_eq_some.1 hdecision).1
    have hforward : ∀ n c, s.notes.forward ≠ .sending n c :=
      h.linkLaw.forwardNote.not_sending fun n => by rw [hfree.2.1]; exact nofun
    cases k with
    | data k =>
      obtain ⟨record, hrecord, hmem, hserial⟩ := h.frameAtCursor hdecision
      rw [State.decideDrain_of_data hdecision hrecord]
      exact h.startData hrange hdecision hmem hserial
    | noteDone i =>
      rw [State.decideDrain_of_noteDone hdecision]
      exact h.startOnDrain (notes := s.notes) hfree.2.1 hfree.2.2 nofun (fun n => ⟨fun hn => absurd hn.choose_spec (hforward n _), nofun⟩) rfl
    | noteRefused i =>
      rw [State.decideDrain_of_noteRefused hdecision]
      exact h.startOnDrain (notes := s.notes) hfree.2.1 hfree.2.2 nofun (fun n => ⟨fun hn => absurd hn.choose_spec (hforward n _), nofun⟩) rfl
    | forwardNote n =>
      rw [State.decideDrain_of_forwardNote hdecision]
      exact h.startOnDrain hfree.2.1 hfree.2.2 nofun (fun m => by simp) rfl

/-- R171: a frame starts on the feed link. -/
theorem State.Law.startOnFeed (h : s.Law) {f : FeedFrame} {notes : NoteBlock}
    (hresponse : ∀ r, f = .response r → oldestAnswer s.slots = some r)
    (hback : ∀ n, (∃ c, notes.back = .sending n c) ↔ f = .note n) (hforward : notes.forward = s.notes.forward) :
    ({ s with feedTx := some f, notes := notes } : State).Law :=
  h.step (h.tableLaw.congr rfl) (h.custodyLaw.congr rfl)
    (h.linkLaw.of_feed (fun r hr => hresponse r (Option.some.inj hr)) (fun n => by rw [hback, Option.some.injEq]) hforward)
    ⟨fun _ ht => ht, fun hc => hc⟩ rfl

/-- What the laws read is the same in both states. -/
theorem State.Law.congr (h : s.Law) (hsame : s.LawSame u) (htick : u.atTick = s.atTick) : u.Law := by
  obtain ⟨htable, hcustody, hlinks⟩ := hsame
  refine h.step (h.tableLaw.congr htable) (h.custodyLaw.congr hcustody) (h.linkLaw.congr hlinks) ?_ htick
  simp only [State.table, Prod.mk.injEq, funext_iff] at htable
  obtain ⟨hcarrier, -, hcore⟩ := htable
  exact ⟨fun t ht => (congrArg StreamCore.timer (hcore t)).symm.trans ht, fun hc => hcarrier.symm.trans hc⟩

theorem State.lawSame_takeFlow (s : State) (i : FlowIndication) : s.LawSame (s.takeFlow i) := by
  cases i with
  | pause t => exact State.lawSame_updateStream (s := { s with flowPosition := t }) rfl rfl
  | go t => exact State.lawSame_updateStream (s := { s with flowPosition := t }) rfl rfl
  | poolPause => exact .refl s
  | poolGo => exact .refl s

theorem State.takeFlow_atTick (s : State) (i : FlowIndication) : (s.takeFlow i).atTick = s.atTick := by cases i <;> rfl

theorem State.Law.decideFeed (h : s.Law) : s.decideFeed.Law := by
  cases hdecision : s.feedDecision with
  | none => rwa [State.decideFeed_of_none hdecision]
  | some k =>
    rw [State.decideFeed_of_some hdecision]
    obtain ⟨hfree, hsends⟩ := State.feedDecision_eq_some.1 hdecision
    have hback : ∀ n c, s.notes.back ≠ .sending n c :=
      h.linkLaw.backNote.not_sending fun n => by rw [hfree.2]; exact nofun
    have hkeepsBack : ∀ f : FeedFrame, (∀ n, f ≠ .note n) → ∀ n, (∃ c, s.notes.back = .sending n c) ↔ f = .note n :=
      fun f hf n => ⟨fun hn => absurd hn.choose_spec (hback n _), fun hn => absurd hn (hf n)⟩
    cases k with
    | flow i =>
      have hflow := h.congr (s.lawSame_takeFlow i) (s.takeFlow_atTick i)
      have hnotes : (s.takeFlow i).notes = s.notes := by cases i <;> rfl
      exact hflow.startOnFeed (f := .flow i) (notes := (s.takeFlow i).notes) nofun
        (by rw [hnotes]; exact hkeepsBack _ nofun) rfl
    | noteDone i => exact h.startOnFeed nofun (hkeepsBack _ nofun) rfl
    | noteRefused i => exact h.startOnFeed nofun (hkeepsBack _ nofun) rfl
    | response r =>
      refine h.startOnFeed (notes := s.notes) (fun q hq => ?_) (hkeepsBack _ nofun) rfl
      cases hq
      obtain ⟨-, -, -, holdest⟩ := hsends
      exact oldestAnswer_eq_some.2 holdest
    | backNote n =>
      refine h.startOnFeed nofun (fun m => ?_) rfl
      simp
    | event e => exact (h.startOnFeed (f := .event e s.events.lost) (notes := s.notes) nofun (hkeepsBack _ nofun) rfl).congr (.refl _) rfl

/-- R61: what is owed keeps the ranges and the laws. -/
theorem keptByOwed_law : KeptByOwed fun s => s.InRange ∧ s.Law where
  expire s v hdue h := ⟨h.1.expire v, h.2.expire hdue⟩
  carrierUp s hsettled h := ⟨h.1.carrierUp, h.2.carrierUp hsettled⟩
  decideDrain s h := ⟨h.1.decideDrain, h.2.decideDrain h.1⟩
  decideFeed s h := ⟨h.1.decideFeed, h.2.decideFeed⟩
  tickTaken s howes h := by
    refine ⟨h.1.setAtTick false, State.law_iff.2 ⟨h.2.tableLaw.congr rfl, h.2.custodyLaw.congr rfl, h.2.linkLaw.congr rfl, ?_⟩⟩
    intro hu
    have hsame : (s.setAtTick false).tickOwes = s.tickOwes := rfl
    rw [hsame, howes] at hu
    cases hu

end

end Sys2Proof.Machine
end

section
/-!
The laws where nothing of a tick is owed, as every command finds them that is not one of the part's own steps, and what the two links
bring.
-/

namespace Sys2Proof.Machine

/-- The laws in a state in which no timer is due and no carrier has settled. -/
structure State.Calm (s : State) : Prop where
  table : s.TableLaw
  custody : s.CustodyLaw
  links : s.LinkLaw
  due : ∀ t, (s.stream t).timer ≠ .due
  settled : s.carrier ≠ .settled

section
variable {s u : State} {v : Tag}

theorem State.Calm.law (h : s.Calm) : s.Law :=
  State.law_iff.2 ⟨h.table, h.custody, h.links, fun howes => by
    rw [State.tickOwes_eq_false.2 ⟨h.due, h.settled⟩] at howes
    cases howes⟩

theorem State.Law.calm (h : s.Law) (howes : s.tickOwes = false) : s.Calm :=
  have howes := State.tickOwes_eq_false.1 howes
  ⟨h.tableLaw, h.custodyLaw, h.linkLaw, howes.1, howes.2⟩

/-- R92, R102: what a command finds in a running part whose laws hold. -/
theorem State.Law.found_calm (h : s.Law) (hrange : s.InRange) (hphase : s.phase = .running) : s.found.Calm :=
  (keptByOwed_law.found ⟨hrange, h⟩).2.calm (State.tickOwes_found hphase)

theorem State.Calm.congr (h : s.Calm) (hsame : s.LawSame u) : u.Calm := by
  obtain ⟨htable, hcustody, hlinks⟩ := hsame
  refine ⟨h.table.congr htable, h.custody.congr hcustody, h.links.congr hlinks, fun t => ?_, ?_⟩
  all_goals
    simp only [State.table, Prod.mk.injEq, funext_iff] at htable
    obtain ⟨hcarrier, -, hcore⟩ := htable
  · exact fun ht => h.due t ((congrArg StreamCore.timer (hcore t)).symm.trans ht)
  · exact hcarrier ▸ h.settled

/-- A step that touches neither the stream table nor custody. -/
theorem State.Calm.of_links (h : s.Calm) (htable : u.table = s.table) (hcustody : u.custodyView = s.custodyView) (hlinks : u.LinkLaw) :
    u.Calm := by
  refine ⟨h.table.congr htable, h.custody.congr hcustody, hlinks, fun t => ?_, ?_⟩
  all_goals
    simp only [State.table, Prod.mk.injEq, funext_iff] at htable
    obtain ⟨hcarrier, -, hcore⟩ := htable
  · exact fun ht => h.due t ((congrArg StreamCore.timer (hcore t)).symm.trans ht)
  · exact hcarrier ▸ h.settled

/-! ### One stream's record (R61, R88) -/

/-- A change of one stream's record that keeps its frames. -/
theorem State.Calm.setStream (h : s.Calm) {x : Stream} (hlaw : x.Law v s.carrier)
    (hclosed : x.state = .closed ↔ (s.stream v).state = .closed) (hconfig : x.config = (s.stream v).config)
    (hqueue : x.queue = (s.stream v).queue) (hoccupancy : x.occupancy = (s.stream v).occupancy) (hdue : x.timer ≠ .due) :
    (s.setStream v x).Calm := by
  have hstream : ∀ t, ((s.setStream v x).stream t).queue = (s.stream t).queue ∧
      ((s.setStream v x).stream t).occupancy = (s.stream t).occupancy ∧ ((s.setStream v x).stream t).timer ≠ .due := fun t => by
    rw [State.stream_setStream]
    split
    · next ht =>
      rw [ht]
      exact ⟨hqueue, hoccupancy, hdue⟩
    · exact ⟨rfl, rfl, h.due t⟩
  have hcustody : (s.setStream v x).custodyView = s.custodyView := by
    simp only [State.custodyView, (hstream _).1, (hstream _).2.1]
    rfl
  exact ⟨h.table.setStream hlaw hclosed (by rw [hconfig]), h.custody.congr hcustody, h.links.congr rfl, fun t => (hstream t).2.2, h.settled⟩

theorem State.Calm.updateStream (h : s.Calm) {f : Stream → Stream} (hlaw : (f (s.stream v)).Law v s.carrier)
    (hclosed : (f (s.stream v)).state = .closed ↔ (s.stream v).state = .closed) (hconfig : (f (s.stream v)).config = (s.stream v).config)
    (hqueue : (f (s.stream v)).queue = (s.stream v).queue) (hoccupancy : (f (s.stream v)).occupancy = (s.stream v).occupancy)
    (hdue : (f (s.stream v)).timer ≠ .due) : (s.updateStream v f).Calm :=
  h.setStream hlaw hclosed hconfig hqueue hoccupancy hdue

/-- R14: a stream that is not CLOSED halts. -/
theorem State.Calm.halt (h : s.Calm) (cause : HaltCause) (hopen : (s.stream v).state ≠ .closed) : (s.halt v cause).Calm := by
  refine State.Calm.congr (s := s.updateStream v fun x => { x with state := .halted, timer := .idle, closeRequested := false }) ?_
    (State.lawSame_raise _ _)
  refine h.updateStream ((h.table.streams v).halted rfl rfl rfl rfl rfl rfl rfl rfl rfl) ⟨nofun, fun hc => absurd hc hopen⟩ rfl rfl rfl
    Timer.noConfusion

/-! ### The transmission on the drain link goes on (R34, R140) -/

theorem DrainTransmission.GoesOn.note_iff {a b : DrainTransmission} (h : a.GoesOn b) (n : Note) : b = .note n ↔ a = .note n := by
  cases h <;> simp

/-- R140: the tally or the mark of what is in transmission changes. -/
theorem State.LinkLaw.of_map (h : s.LinkLaw) {f : DrainTransmission → DrainTransmission} (hf : ∀ tx : DrainTransmission, tx.GoesOn (f tx))
    (hlinks : u.links = ({ s with drainTx := s.drainTx.map f } : State).links) : u.LinkLaw := by
  refine State.LinkLaw.congr (s := { s with drainTx := s.drainTx.map f }) ?_ hlinks
  refine .of_slotLaw h.slotLaw (fun hsome => h.sending fun hnone => ?_) h.reception h.pin (fun n => ?_) h.backNote
  · exact hsome (by dsimp only; rw [hnone]; rfl)
  · have hlaw := h.forwardNote n
    refine hlaw.trans ?_
    cases s.drainTx with
    | none => exact ⟨nofun, nofun⟩
    | some tx => simp only [Option.map_some, Option.some.injEq, (hf tx).note_iff]

theorem abandonedRecords_eq_nil {tx : DrainTransmission} (h : ∀ r b d x, tx ≠ .data r b d x) : abandonedRecords (some tx) = [] := by
  cases tx with
  | data r b d x => exact absurd rfl (h r b d x)
  | note n => rfl
  | noteDone sent tally => rfl
  | noteRefused sent tally => rfl

/-- R140: another tally of a note indication toward the consumer. -/
theorem State.Calm.tallied (h : s.Calm) {f : DrainTransmission → DrainTransmission} (hf : ∀ tx : DrainTransmission, tx.GoesOn (f tx))
    (hdata : ∀ tx r b d x, f tx = .data r b d x ↔ tx = .data r b d x) {notes : NoteBlock}
    (hforward : notes.forward = s.notes.forward) (hback : notes.back = s.notes.back) :
    ({ s with drainTx := s.drainTx.map f, notes := notes } : State).Calm := by
  refine ⟨h.table.congr rfl, h.custody.of_drainTx ?_ ?_ rfl rfl rfl (fun _ => rfl) fun _ => rfl,
    h.links.of_map hf (by simp only [State.links, hforward, hback]), h.due, h.settled⟩
  · show (abandonedRecords (s.drainTx.map f)).head? = (abandonedRecords s.drainTx).head?
    cases s.drainTx with
    | none => rfl
    | some tx =>
      by_cases htx : ∃ r b d x, tx = .data r b d x
      · obtain ⟨r, b, d, x, rfl⟩ := htx
        rw [Option.map_some, (hdata _ r b d x).2 rfl]
      · have hnot : ∀ r b d x, tx ≠ .data r b d x := fun r b d x he => htx ⟨r, b, d, x, he⟩
        rw [Option.map_some, abandonedRecords_eq_nil hnot, abandonedRecords_eq_nil fun r b d x he => hnot r b d x ((hdata tx r b d x).1 he)]
  · intro r d x htx
    obtain ⟨tx, hsome, hff⟩ := Option.map_eq_some_iff.1 htx
    rw [(hdata tx r true d x).1 hff] at hsome
    exact h.custody.transmission r d x hsome

/-! ### Notes (R136 to R140) -/

theorem DrainTransmission.tallyDone_data (tx : DrainTransmission) (number : Byte) (r : FrameRecord) (b : Bool) (d : DrainTag) (x : Serial) :
    tx.tallyDone number = .data r b d x ↔ tx = .data r b d x := by
  cases tx <;> simp [DrainTransmission.tallyDone]

theorem DrainTransmission.tallyRefused_data (tx : DrainTransmission) (number : Byte) (r : FrameRecord) (b : Bool) (d : DrainTag)
    (x : Serial) : tx.tallyRefused number = .data r b d x ↔ tx = .data r b d x := by
  cases tx <;> simp [DrainTransmission.tallyRefused]

/-- R136, R137: the slots of the notes, where none becomes or ceases to be SENDING. -/
theorem State.Calm.setNotes (h : s.Calm) {notes : NoteBlock}
    (hforward : ∀ n, (∃ c, notes.forward = .sending n c) ↔ ∃ c, s.notes.forward = .sending n c)
    (hback : ∀ n, (∃ c, notes.back = .sending n c) ↔ ∃ c, s.notes.back = .sending n c) : ({ s with notes := notes } : State).Calm :=
  h.of_links rfl rfl (.of_slotLaw h.links.slotLaw h.links.sending h.links.reception h.links.pin
    (fun n => (hforward n).trans (h.links.forwardNote n)) fun n => (hback n).trans (h.links.backNote n))

theorem NoteSlot.matchesTaken_not_sending {x : NoteSlot} {number : Byte} (h : x.matchesTaken number = true) (n : Note) (c : Bool) :
    x ≠ .sending n c := by
  rintro rfl
  cases h

theorem State.Calm.forwardNoteArrives (h : s.Calm) (n : Note) : (s.forwardNoteArrives n).Calm := by
  unfold State.forwardNoteArrives
  split
  · next hempty => exact h.setNotes (fun m => by simp [hempty]) fun _ => Iff.rfl
  · exact h.setNotes (fun _ => Iff.rfl) fun _ => Iff.rfl

theorem State.Calm.backNoteArrives (h : s.Calm) (n : Note) : (s.backNoteArrives n).Calm := by
  unfold State.backNoteArrives
  split
  · next hempty => exact h.setNotes (fun _ => Iff.rfl) fun m => by simp [hempty]
  · exact h.tallied (fun tx => tx.goesOn_tallyRefused _) (fun tx => tx.tallyRefused_data _) rfl rfl

theorem State.Calm.forwardNoteTaken (h : s.Calm) (number : Byte) : (s.forwardNoteTaken number).Calm := by
  unfold State.forwardNoteTaken
  split
  · next hmatch =>
    refine h.setNotes (fun m => ?_) fun _ => Iff.rfl
    simp [NoteSlot.matchesTaken_not_sending hmatch]
  · exact h.congr (.refl s)

theorem State.Calm.backNoteTaken (h : s.Calm) (number : Byte) : (s.backNoteTaken number).Calm := by
  unfold State.backNoteTaken
  split
  · next hmatch =>
    have hemptied : ({ s with notes := { s.notes with back := .empty } } : State).Calm :=
      h.setNotes (fun _ => Iff.rfl) fun m => by simp [NoteSlot.matchesTaken_not_sending hmatch]
    exact hemptied.tallied (fun tx => tx.goesOn_tallyDone number) (fun tx => tx.tallyDone_data number) rfl rfl
  · exact h.congr (.refl s)

/-! ### Requests arrive and are taken (R146, R147) -/

theorem State.engineTake_frame (s : State) : s.engineTake = { s with slots := s.engineTake.slots } := by
  unfold State.engineTake
  split <;> rfl

/-- R147: the slots as the engine leaves them. -/
theorem State.Calm.engineTake (h : s.Calm) {answers : List Response} {running : Option Request} {waiting : List Request}
    {slots : List Slot} (hslots : slots = slotList answers running waiting)
    (hresponse : ∀ r, s.feedTx = some (.response r) → answers.head? = some r) : ({ s with slots := slots } : State).engineTake.Calm := by
  have hlaw := slotLaw_engineTake (s := { s with slots := slots }) hslots hresponse
  have hframe := ({ s with slots := slots } : State).engineTake_frame
  generalize ({ s with slots := slots } : State).engineTake = u at *
  rw [hframe] at hlaw ⊢
  exact h.of_links rfl rfl (.of_slotLaw hlaw h.links.sending h.links.reception h.links.pin h.links.forwardNote h.links.backNote)

theorem State.Calm.requestArrives (h : s.Calm) (r : Request) : (s.requestArrives r).Calm := by
  unfold State.requestArrives
  split
  · obtain ⟨answers, running, waiting, hslots, -, hresponse⟩ := h.links.slotLaw
    exact h.engineTake (by rw [hslots, slotList_append_queued]) hresponse
  · exact h.congr (State.lawSame_raise s.countRequestLost _)

theorem State.Calm.answer (h : s.Calm) {r : Request} (hr : executingRequest s.slots = some r) (status : Status) (result : List Byte) :
    (s.answer r status result).Calm := by
  obtain ⟨answers, running, waiting, hslots, -, hresponse⟩ := h.links.slotLaw
  rw [hslots, executingRequest_slotList] at hr
  subst hr
  refine h.engineTake (by rw [hslots, answerExecuting_slotList]) fun q hq => ?_
  rw [List.head?_append, hresponse q hq]
  rfl

theorem HandOnEffect.calm (hs : s.Calm) (h : HandOnEffect s u) : u.Calm := by
  cases h with
  | request r => exact hs.requestArrives r
  | note n => exact hs.forwardNoteArrives n
  | noteTaken number => exact hs.backNoteTaken number

/-! ### Releases (R72, R76, R80) -/

theorem ReleasedTo.mapped {gone : List FrameRecord} (h : ReleasedTo s u gone) :
    ∃ f : DrainTransmission → DrainTransmission, (∀ tx : DrainTransmission, tx.GoesOn (f tx)) ∧ u.drainTx = s.drainTx.map f := by
  obtain ⟨-, -, htx⟩ := h
  split at htx
  · exact ⟨_, DrainTransmission.goesOn_unmark, htx⟩
  · exact ⟨id, .same, by rw [htx, Option.map_id, id]⟩

/-- R80: a step that releases frames changes no more than the tables, the pool and the mark. -/
theorem State.LinkLaw.released (h : s.LinkLaw) {gone : List FrameRecord} (hreleased : ReleasedTo s u gone)
    (hframe : u = { s with streams := u.streams, drainMap := u.drainMap, pool := u.pool, drainTx := u.drainTx, events := u.events }) :
    u.LinkLaw := by
  obtain ⟨f, hf, htx⟩ := hreleased.mapped
  refine h.of_map hf ?_
  rw [hframe, htx]
  rfl

theorem State.Calm.releaseStep (h : s.Calm) {k : Nat} {after : Stream} {outcome : BitVec 16} (hstep : ReleaseStep s u v k after outcome)
    (hkeeps : (s.stream v).ReleaseKeeps k after s.carrier) (hopen : (s.stream v).state ≠ .closed) (hdue : after.timer ≠ .due) : u.Calm := by
  have hcarrier : u.carrier = s.carrier := by rw [hstep.frame]
  refine ⟨h.table.releaseStep hstep hkeeps hopen, h.custody.releaseStep hstep, h.links.released hstep.1 hstep.frame, fun t => ?_,
    hcarrier ▸ h.settled⟩
  obtain ⟨-, hothers, hself, -⟩ := hstep
  by_cases ht : t = v
  · subst ht
    split at hself
    · rw [hself.1]
      exact Timer.noConfusion
    · rw [hself.1]
      exact hdue
  · rw [hothers t ht]
    exact h.due t

theorem Timer.load_ne_due (timeout : Nat) (held : Bool) : Timer.load timeout held ≠ .due := by
  unfold Timer.load
  split <;> exact Timer.noConfusion

theorem Stream.acknowledged_timer_ne_due {x : Stream} (h : x.timer ≠ .due) (serial : Serial) : (x.acknowledged serial).timer ≠ .due := by
  unfold Stream.acknowledged
  dsimp only
  generalize (if x.head.distance x.cursor ≤ x.head.distance serial then serial + 1#12 else x.cursor) = cursor
  split
  · split
    · exact Timer.load_ne_due x.config.ackTimeout x.held
    · exact Timer.noConfusion
  · exact h

theorem Stream.replayed_timer_ne_due {x : Stream} (h : x.timer ≠ .due) (serial : Serial) : (x.replayed serial).timer ≠ .due := by
  unfold Stream.replayed
  dsimp only
  split
  · exact Timer.noConfusion
  · exact h

theorem State.Calm.state_of_mapped (h : s.Calm) {d : DrainTag} (hmapped : s.mapped d = some v) : (s.stream v).state ≠ .closed :=
  ((h.table.map d v).1 hmapped).1

theorem State.Calm.ackProgress (h : s.Calm) (hup : s.carrier = .up) {serial : Serial} (hopen : (s.stream v).state ≠ .closed)
    (htaken : (s.stream v).classifyAck serial = .taken) : (s.ackProgress v serial).Calm := by
  have hprogress : Serial.distance (s.stream v).head serial < (s.stream v).started := by
    unfold Stream.classifyAck at htaken
    split at htaken
    · assumption
    · split at htaken <;> cases htaken
  have hlaw := h.table.streams v
  rw [hup] at hlaw
  refine h.releaseStep (s.releaseStep_ackProgress v serial hopen hprogress) ?_ hopen (Stream.acknowledged_timer_ne_due (h.due v) serial)
  rw [hup]
  exact hlaw.acknowledged_keeps hprogress

/-- R77: a REPLAY of head moves the cursor to head, or halts the stream. -/
theorem State.Calm.replayAtHead (h : s.Calm) (hopen : (s.stream v).state ≠ .closed) : (s.replayAtHead v (s.stream v).head).Calm := by
  have hlaw := h.table.streams v
  have hrewound : ∀ y : Stream, y.queue = (s.stream v).queue → y.head = (s.stream v).head → y.cursor = (s.stream v).head →
      y.reach = (s.stream v).reach → y.tail = (s.stream v).tail → y.timer = .idle → y.state = (s.stream v).state →
      y.closeRequested = (s.stream v).closeRequested → y.held = (s.stream v).held → y.Law v s.carrier :=
    fun y hqueue hhead hcursor hreach htail htimer hstate hclose hheld =>
      hlaw.of_eq hqueue hhead (.inr hcursor) hreach htail (Stream.timerLaw_of_idle htimer) (by rw [hstate]; exact hopen)
        (by rw [hstate]; exact hlaw.draining) (by rw [hstate, hclose]; exact hlaw.closeRequested) (by rw [hheld]; exact hlaw.held)
  unfold State.replayAtHead
  dsimp only
  split
  · next hcursor =>
    split
    · exact h.setStream (hrewound _ rfl rfl hcursor rfl rfl rfl rfl rfl rfl) Iff.rfl rfl rfl rfl Timer.noConfusion
    · exact h
  · split
    · split
      · exact h.setStream (hrewound _ rfl rfl rfl rfl rfl rfl rfl rfl rfl) Iff.rfl rfl rfl rfl Timer.noConfusion
      · exact h.halt .peerReplay hopen
    · next hlive =>
      have hidle : (s.stream v).timer = .idle := hlaw.timer_idle_of_not_live (mt (StreamState.live_iff _).2 hlive)
      refine h.setStream (hrewound _ rfl rfl rfl rfl rfl hidle rfl rfl rfl) Iff.rfl rfl rfl rfl ?_
      dsimp only
      rw [hidle]
      exact Timer.noConfusion

theorem State.Calm.replayAccepted (h : s.Calm) {serial : Serial} (hopen : (s.stream v).state ≠ .closed)
    (htaken : (s.stream v).classifyReplay serial = .taken) : (s.replayAccepted v serial).Calm := by
  have haccepted : Serial.distance (s.stream v).head serial ≤ (s.stream v).started := by
    unfold Stream.classifyReplay at htaken
    split at htaken
    · assumption
    · split at htaken <;> cases htaken
  by_cases hhead : Serial.distance (s.stream v).head serial = 0
  · unfold State.replayAccepted
    dsimp only
    rw [if_pos hhead]
    have hcounted : (s.countStream v fun c => { c with peerReplays := c.peerReplays + 1#32 }).stream v =
        { s.stream v with counters := { (s.stream v).counters with peerReplays := (s.stream v).counters.peerReplays + 1#32 } } :=
      State.stream_updateStream_self s v _
    have hcalm := h.congr (s.lawSame_countStream v fun c => { c with peerReplays := c.peerReplays + 1#32 })
    generalize (s.countStream v fun c => { c with peerReplays := c.peerReplays + 1#32 }) = m at *
    have hserial : serial = (m.stream v).head := by rw [hcounted, Serial.distance_eq_zero hhead]
    rw [hserial]
    exact hcalm.replayAtHead (by rw [hcounted]; exact hopen)
  · exact h.releaseStep (s.releaseStep_replayAccepted v serial hopen (Nat.pos_of_ne_zero hhead))
      ((h.table.streams v).replayed_keeps haccepted) hopen (Stream.replayed_timer_ne_due (h.due v) serial)

/-! ### Returns from the consumer (R118, R122) -/

theorem Stream.hold_same (x : Stream) : x.hold.state = x.state ∧ x.hold.config = x.config ∧ x.hold.queue = x.queue ∧
    x.hold.occupancy = x.occupancy ∧ (x.timer ≠ .due → x.hold.timer ≠ .due) := by
  unfold Stream.hold
  split
  · exact ⟨rfl, rfl, rfl, rfl, id⟩
  · refine ⟨rfl, rfl, rfl, rfl, fun h => ?_⟩
    dsimp only
    cases htimer : x.timer <;> simp [htimer, Timer.freeze] at h ⊢

theorem Stream.resume_same (x : Stream) : x.resume.state = x.state ∧ x.resume.config = x.config ∧ x.resume.queue = x.queue ∧
    x.resume.occupancy = x.occupancy ∧ (x.timer ≠ .due → x.resume.timer ≠ .due) := by
  unfold Stream.resume
  split
  · refine ⟨rfl, rfl, rfl, rfl, fun h => ?_⟩
    dsimp only
    cases htimer : x.timer <;> simp [htimer, Timer.unfreeze] at h ⊢
  · exact ⟨rfl, rfl, rfl, rfl, id⟩

/-- R118: every stream's record changes, and each keeps its frames. -/
theorem State.Calm.mapStreams (h : s.Calm) {f : Stream → Stream} (hlaw : ∀ t, (f (s.stream t)).Law t s.carrier)
    (hsame : ∀ x : Stream, (f x).state = x.state ∧ (f x).config = x.config ∧ (f x).queue = x.queue ∧ (f x).occupancy = x.occupancy ∧
      (x.timer ≠ .due → (f x).timer ≠ .due)) : (s.mapStreams f).Calm := by
  have hstream : ∀ t, (s.mapStreams f).stream t = f (s.stream t) := fun t => State.stream_mapStreams _ _ t
  have hframe : s.mapStreams f = { s with streams := (s.mapStreams f).streams } := rfl
  generalize s.mapStreams f = u at hstream hframe ⊢
  have hcarrier : u.carrier = s.carrier := by rw [hframe]
  have hfilling : u.fillingRecord = s.fillingRecord := by rw [hframe]; rfl
  have hcustody : u.custodyView = s.custodyView := by
    simp only [State.custodyView, hstream, (hsame _).2.2.1, (hsame _).2.2.2.1, hfilling]
    rw [hframe]
  refine ⟨h.table.mapStreams hlaw (fun x => (hsame x).1) (fun x => (hsame x).2.1) hcarrier hstream fun _ => by rw [hframe]; rfl,
    h.custody.congr hcustody, h.links.congr (by rw [hframe]; rfl), fun t => ?_, hcarrier ▸ h.settled⟩
  rw [hstream]
  exact (hsame _).2.2.2.2 (h.due t)

/-- R118: HOLD and RESUME with drain tag 255 act on every stream that is not CLOSED. -/
theorem State.Calm.mapOpenStreams (h : s.Calm) {f : Stream → Stream}
    (hlaw : ∀ t, (s.stream t).state ≠ .closed → (f (s.stream t)).Law t s.carrier)
    (hsame : ∀ x : Stream, (f x).state = x.state ∧ (f x).config = x.config ∧ (f x).queue = x.queue ∧ (f x).occupancy = x.occupancy ∧
      (x.timer ≠ .due → (f x).timer ≠ .due)) : (s.mapStreams fun x => if x.state = .closed then x else f x).Calm := by
  refine h.mapStreams (fun t => ?_) fun x => ?_
  · split
    · exact h.table.streams t
    · next hopen => exact hlaw t hopen
  · split
    · exact ⟨rfl, rfl, rfl, rfl, id⟩
    · exact hsame x

theorem RoutedEffect.calm (hs : s.Calm) (hup : s.carrier = .up) (h : RoutedEffect s u) : u.Calm := by
  have hlaw : ∀ t, (s.stream t).Law t .up := fun t => hup ▸ hs.table.streams t
  cases h with
  | ack v serial d hmapped htaken => exact hs.ackProgress hup (hs.state_of_mapped hmapped) htaken
  | replay v serial d hmapped htaken => exact hs.replayAccepted (hs.state_of_mapped hmapped) htaken
  | stale v => exact hs.congr (s.lawSame_countStream v _)
  | ahead v kind d serial => exact hs.congr (s.lawSame_raise _)
  | stray kind d sent => exact hs.congr (State.lawSame_raise s.countDrainStray _)
  | holdAll => exact hs.mapOpenStreams (fun t hopen => hup ▸ (hlaw t).hold (hs.due t) hopen) Stream.hold_same
  | resumeAll => exact hs.mapOpenStreams (fun t hopen => hup ▸ (hlaw t).resume hopen) Stream.resume_same
  | hold v d hmapped =>
    have hopen := hs.state_of_mapped hmapped
    obtain ⟨hstate, hconfig, hqueue, hoccupancy, hdue⟩ := (s.stream v).hold_same
    exact hs.updateStream (hup ▸ (hlaw v).hold (hs.due v) hopen) (by rw [hstate]) hconfig hqueue hoccupancy (hdue (hs.due v))
  | resume v d hmapped =>
    have hopen := hs.state_of_mapped hmapped
    obtain ⟨hstate, hconfig, hqueue, hoccupancy, hdue⟩ := (s.stream v).resume_same
    exact hs.updateStream (hup ▸ (hlaw v).resume hopen) (by rw [hstate]) hconfig hqueue hoccupancy (hdue (hs.due v))
  | note n => exact hs.backNoteArrives n
  | noteTaken number => exact hs.forwardNoteTaken number

/-! ### Reception on the drain link (R106, R121) -/

/-- R106, R121: another state of the return receiver. -/
theorem State.Calm.setReception (h : s.Calm) (hrx : u.drainRx.Taken → s.carrier = .up)
    (hframe : u = { s with drainRx := u.drainRx, port := u.port, freeCount := u.freeCount }) : u.Calm := by
  have hreception : ({ s with drainRx := u.drainRx } : State).LinkLaw :=
    .of_slotLaw h.links.slotLaw h.links.sending hrx h.links.pin h.links.forwardNote h.links.backNote
  refine h.of_links ?_ ?_ (hreception.congr ?_)
  all_goals
    rw [hframe]
    rfl

theorem State.returnStarts_taken (h : s.returnStarts.drainRx.Taken) : s.carrier = .up := by
  by_contra hup
  have hrx : s.returnStarts.drainRx = .discarding := by
    unfold State.returnStarts
    dsimp only
    rw [State.setDrainRx, if_neg hup]
  rw [hrx] at h
  obtain h | ⟨received, damaged, h⟩ := h <;> cases h

theorem State.takeReturn_taken (symbols : List LaneSymbol) (h : (s.takeReturn symbols).drainRx.Taken) : s.drainRx.Taken := by
  unfold State.takeReturn at h
  split at h
  · next received damaged hrx => exact .inr ⟨received, damaged, hrx⟩
  all_goals exact h

theorem State.LinkLaw.receive_taken (h : s.LinkLaw) (opens : Bool) (symbols : List LaneSymbol)
    (htaken : (s.receive opens symbols).drainRx.Taken) : s.carrier = .up := by
  unfold State.receive at htaken
  have hbefore := State.takeReturn_taken symbols htaken
  split at hbefore
  · exact State.returnStarts_taken hbefore
  · exact h.reception hbefore

theorem DrainReceiver.awaitStart_not_taken : ¬ DrainReceiver.awaitStart.Taken := by
  rintro (h | ⟨received, damaged, h⟩) <;> cases h

theorem State.Calm.receive (h : s.Calm) (opens : Bool) (symbols : List LaneSymbol) : (s.receive opens symbols).Calm :=
  h.setReception (h.links.receive_taken opens symbols) (s.receive_frame opens symbols)

theorem State.Calm.returnStarts (h : s.Calm) : s.returnStarts.Calm := by
  refine h.setReception State.returnStarts_taken ?_
  rw [State.returnStarts_eq]

theorem State.Calm.receptionEnds (h : s.Calm) : (s.setDrainRx .awaitStart).Calm :=
  h.setReception (fun htaken => absurd htaken DrainReceiver.awaitStart_not_taken) rfl

theorem ReturnEffect.calm {c : Instr} (hs : s.Calm) (h : ReturnEffect c s u) : u.Calm := by
  cases h with
  | held hc opens symbols => exact hs.receive opens symbols
  | restarted hc opens symbols => exact (hs.receive opens symbols).returnStarts
  | ended hc opens symbols => exact (hs.receive opens symbols).receptionEnds
  | malformed hc opens symbols => exact (hs.receive opens symbols).receptionEnds.congr (.refl _)
  | checkError hc opens symbols => exact (hs.receive opens symbols).receptionEnds.congr (.refl _)
  | routed hc opens symbols hrx hgood =>
    have hreceived := hs.receive opens symbols
    have hup := hreceived.links.reception (.inr ⟨_, _, hrx⟩)
    exact RoutedEffect.calm hreceived.receptionEnds hup (.of_routedFrame hc _)

end

end Sys2Proof.Machine
end

section
/-!
What the feed link brings keeps the laws (R40 to R57).
-/

namespace Sys2Proof.Machine

section
variable {s u : State} {v : Tag} {record : FrameRecord}

/-- A step that changes neither what the laws of the stream table read nor the links. -/
theorem State.Calm.of_custody (h : s.Calm) (htable : u.table = s.table) (hcustody : u.CustodyLaw) (hlinks : u.links = s.links) :
    u.Calm := by
  refine ⟨h.table.congr htable, hcustody, h.links.congr hlinks, fun t => ?_, ?_⟩
  all_goals
    simp only [State.table, Prod.mk.injEq, funext_iff] at htable
    obtain ⟨hcarrier, -, hcore⟩ := htable
  · exact fun ht => h.due t ((congrArg StreamCore.timer (hcore t)).symm.trans ht)
  · exact hcarrier ▸ h.settled

theorem State.table_eq (hcarrier : u.carrier = s.carrier) (hmapped : ∀ d, u.mapped d = s.mapped d)
    (hcore : ∀ t, (u.stream t).core = (s.stream t).core) : u.table = s.table := by
  simp only [State.table, hcarrier, hcore, Prod.mk.injEq, true_and, and_true]
  exact funext hmapped

/-! ### The feed receiver (R40) -/

theorem State.fillingRecord_storing {received : List Byte} {running : CheckWord} {damaged : Bool}
    (h : s.feedRx = .storing record received running damaged) : s.fillingRecord = some record := by rw [State.fillingRecord, h]

theorem State.fillingRecord_of_sinceStart {symbols : List LaneSymbol} {x : List Byte × Bool} (h : s.sinceStart symbols = some x) :
    s.fillingRecord = none := by
  rw [State.fillingRecord]
  unfold State.sinceStart at h
  cases hrx : s.feedRx with
  | awaitStart => rfl
  | header received damaged => rfl
  | storing record received running damaged =>
    rw [hrx] at h
    cases h
  | staging header received running damaged => rfl
  | skipping skipped => rfl

/-- R40: the feed receiver goes to another state with the record that it had. -/
theorem State.Calm.of_feedRx (h : s.Calm) (hfilling : u.fillingRecord = s.fillingRecord)
    (hframe : u = { s with feedRx := u.feedRx, port := u.port, freeCount := u.freeCount, cells := u.cells }) : u.Calm := by
  refine h.of_links ?_ ?_ (h.links.congr ?_)
  · rw [hframe]
    rfl
  · simp only [State.custodyView, hfilling]
    rw [hframe]
    rfl
  · rw [hframe]
    rfl

theorem FeedReceiver.afterCut_fillingRecord (s : State) (marker : Marker) : (s.setFeedRx (FeedReceiver.afterCut marker)).fillingRecord = none := by
  cases marker <;> rfl

/-! ### Admission (R44 to R49) -/

theorem State.lawSame_refuseLimit (s : State) (t : Tag) : s.LawSame (s.refuseLimit t) := by
  have hcounted := s.lawSame_countStream t fun c => { c with refusedLimit := c.refusedLimit + 1#32 }
  unfold State.refuseLimit
  dsimp only
  split
  · exact hcounted
  · exact (hcounted.trans (State.lawSame_updateStream rfl rfl)).trans (State.lawSame_raise _ _)

theorem State.space_of_admitted {n : Nat} (h : s.admission v n = .admitted) :
    (s.stream v).state = .opened ∧ n ≤ s.pool.freeCells.length ∧ s.pool.freeRecords ≠ [] := by
  unfold State.admission at h
  dsimp only at h
  split at h
  · cases h
  · next hstate =>
    split at h
    · cases h
    · split at h
      · cases h
      · split at h
        · cases h
        · next hspace =>
          obtain ⟨hcells, hrecords⟩ := not_or.1 hspace
          exact ⟨not_not.1 hstate, Nat.le_of_not_lt hcells, hrecords⟩

theorem Reserved.table {n : Nat} {records : List Nat} (h : Reserved s u v n records) (hopen : (s.stream v).state ≠ .closed) :
    u.table = s.table := by
  have hframe := h.frame
  refine State.table_eq (by rw [hframe]) (fun d => by rw [hframe]; rfl) fun t => ?_
  by_cases ht : t = v
  · rw [ht, h.stream hopen]
    simp only [Stream.core, hopen, if_false]
  · rw [h.others t ht]

/-- R29, R49: the frame goes into reception with its reservation. -/
theorem State.Calm.beginStoring (h : s.Calm) (hrx : s.fillingRecord = none) {length : Nat} (hpos : 1 ≤ length) (hmax : length ≤ 2048)
    (hadmitted : s.admission v (cellsFor length) = .admitted) (body : List Byte) (running : CheckWord) (damaged : Bool) :
    (s.beginStoring v length body running damaged).Calm := by
  obtain ⟨hstate, hcells, hrecords⟩ := State.space_of_admitted hadmitted
  have hopen : (s.stream v).state ≠ .closed := by rw [hstate]; exact StreamState.noConfusion
  obtain ⟨number, records, hfree⟩ := List.exists_cons_of_ne_nil hrecords
  obtain ⟨u, hreserve, hu⟩ := State.reserve_eq hfree v length
  have hchain : (s.pool.freeCells.take (cellsFor length)).length = cellsFor length := List.length_take_of_le hcells
  rw [State.beginStoring, hreserve]
  have htable := hu.table hopen
  have hframe := hu.frame
  have hqueue : ∀ t, (u.stream t).queue = (s.stream t).queue ∧
      (u.stream t).occupancy = if t = v then (s.stream t).occupancy + cellsFor length else (s.stream t).occupancy := fun t => by
    by_cases ht : t = v
    · rw [if_pos ht, ht, hu.stream hopen]
      exact ⟨rfl, rfl⟩
    · rw [if_neg ht, hu.others t ht]
      exact ⟨rfl, rfl⟩
  refine h.of_custody htable (h.custody.reserved hrx rfl ?_ ?_ ?_ (fun t => (hqueue t).1) (fun t => ?_) rfl ⟨hpos, hmax, hchain⟩) ?_
  · show s.pool.freeCells = s.pool.freeCells.take (cellsFor length) ++ u.pool.freeCells
    rw [hu.freeCells, List.take_append_drop]
  · show s.pool.freeRecords = number :: u.pool.freeRecords
    rw [hu.freeRecords, hfree]
  · show u.drainTx = s.drainTx
    rw [hframe]
  · rw [hchain]
    exact (hqueue t).2
  · show u.links = s.links
    rw [hframe]
    rfl

/-- R44, R49: the admission tests on a DATA header. -/
theorem State.Calm.takeData (h : s.Calm) (hrx : s.fillingRecord = none) {length : Nat} (hpos : 1 ≤ length) (hmax : length ≤ 2048)
    (body : List Byte) (running : CheckWord) (damaged : Bool) : (s.takeData v length body running damaged).Calm := by
  have hskips : ∀ u : State, s.LawSame u → u.feedRx = s.feedRx → (u.setFeedRx (.skipping body.length)).Calm := fun u hsame hfeed =>
    (h.congr hsame).of_feedRx ((State.fillingRecord_of_feedRx hfeed).trans hrx).symm rfl
  cases hadmission : s.admission v (cellsFor length) with
  | refusedState =>
    rw [State.takeData_refusedState hadmission]
    exact hskips _ (s.lawSame_countStream v _) rfl
  | refusedLimit =>
    rw [State.takeData_refusedLimit hadmission]
    refine hskips _ (s.lawSame_refuseLimit v) ?_
    simp [State.refuseLimit, apply_ite State.feedRx]
  | refusedPool =>
    rw [State.takeData_refusedPool hadmission]
    exact hskips _ (s.lawSame_countStream v _) rfl
  | admitted =>
    rw [State.takeData_admitted hadmission]
    exact h.beginStoring hrx hpos hmax hadmission body running damaged

/-- R175: a valid DATA header declares 1 to 2,048 bytes. -/
theorem feedKind_data_length {header : Header} (h : feedKind? header = some (.data v)) :
    1 ≤ header.length.toNat ∧ header.length.toNat ≤ 2048 := by
  unfold feedKind? at h
  split at h
  · cases h
  · split at h
    · split at h
      · next hlength =>
        obtain ⟨hpos, hmax⟩ := (Bool.and_eq_true _ _).mp hlength
        exact ⟨of_decide_eq_true hpos, of_decide_eq_true hmax⟩
      · cases h
    · split at h
      · cases h
      · split at h
        · cases h
        · split at h <;> cases h

theorem State.Calm.takeHeader (h : s.Calm) (hrx : s.fillingRecord = none) (received : List Byte) (damaged : Bool) :
    (s.takeHeader received damaged).Calm := by
  unfold State.takeHeader
  split
  · exact h.of_feedRx hrx.symm rfl
  · dsimp only
    split
    · exact h.of_feedRx hrx.symm rfl
    · next hkind =>
      obtain ⟨hpos, hmax⟩ := feedKind_data_length hkind
      exact h.takeData hrx hpos hmax _ _ _
    · exact h.of_feedRx hrx.symm rfl

/-! ### The end of a DATA frame (R30, R31, R51) -/

theorem ReservationReturned.table {drawn : Nat} (h : ReservationReturned s u record drawn) : u.table = s.table := by
  have hframe := h.frame
  refine State.table_eq (by rw [hframe]) (fun d => by rw [hframe]; rfl) fun t => ?_
  by_cases ht : t = record.stream
  · rw [ht, h.stream]
    by_cases hclosed : (s.stream record.stream).state = .closed
    · simp only [Stream.core, hclosed, if_true]
    · simp only [Stream.core, hclosed, if_false]
  · rw [h.others t ht]

/-- R30, R51: the reservation of the frame in reception goes back. -/
theorem State.Calm.returnsReservation {drawn : Nat} (h : s.Calm) (hrx : s.fillingRecord = some record)
    (hreturned : ReservationReturned s u record drawn) {r : FeedReceiver} (hend : (u.setFeedRx r).fillingRecord = none) :
    (u.setFeedRx r).Calm := by
  have htable := hreturned.table
  have hframe := hreturned.frame
  have hqueue : ∀ t, (u.stream t).queue = (s.stream t).queue ∧ (u.stream t).occupancy =
      if t = record.stream then (s.stream t).occupancy - record.chain.length else (s.stream t).occupancy := fun t => by
    by_cases ht : t = record.stream
    · rw [if_pos ht, ht, hreturned.stream]
      exact ⟨rfl, rfl⟩
    · rw [if_neg ht, hreturned.others t ht]
      exact ⟨rfl, rfl⟩
  refine h.of_custody htable (h.custody.reservationEnds hrx hend hreturned.freeCells hreturned.freeRecords ?_ (fun t => (hqueue t).1)
    fun t => (hqueue t).2) ?_
  · show u.drainTx = s.drainTx
    rw [hframe]
  · show u.links = s.links
    rw [hframe]
    rfl

/-- R31, R51: an accepted frame joins its stream's queue. -/
theorem State.Calm.frameJoins (h : s.Calm) (hrx : s.fillingRecord = some record) (hopen : (s.stream record.stream).state = .opened) :
    ((s.updateStream record.stream fun x => x.append record).setFeedRx .awaitStart).Calm := by
  obtain ⟨-, hrecord⟩ := h.custody.filling record hrx
  have hstream : ∀ t, ((s.updateStream record.stream fun x => x.append record).stream t) =
      if t = record.stream then (s.stream record.stream).append record else s.stream t := fun t => State.stream_setStream _ _ _ _
  have hlaw := (h.table.streams record.stream).append hopen (h.custody.room hrx _) rfl hrecord
  have htable : (s.updateStream record.stream fun x => x.append record).TableLaw := h.table.setStream hlaw Iff.rfl rfl
  refine ⟨htable.congr rfl, ?_, h.links.congr rfl, fun t => ?_, h.settled⟩
  · refine h.custody.frameJoins hrx rfl (s.stream record.stream).tail rfl rfl rfl ?_ (fun t ht => ?_) fun t => ?_
    · exact congrArg Stream.queue ((hstream _).trans (if_pos rfl))
    · exact congrArg Stream.queue ((hstream t).trans (if_neg ht))
    · refine (congrArg Stream.occupancy (hstream t)).trans ?_
      split
      · next ht =>
        rw [ht]
        rfl
      · rfl
  · refine fun hdue => ?_
    have htimer := (congrArg Stream.timer (hstream t)).symm.trans hdue
    split at htimer
    · exact h.due _ htimer
    · exact h.due t htimer

theorem State.Calm.endData (h : s.Calm) (hrx : s.fillingRecord = some record) (drawn : Nat) (payload : List Byte)
    (verdict : FrameVerdict) : ((((s.drawFree drawn).storeBytes record payload).endData record verdict).setFeedRx .awaitStart).Calm := by
  have hreturned := reservationReturned s record drawn payload
  have hstored : ((s.drawFree drawn).storeBytes record payload).Calm := h.congr (.refl s)
  have hstoring : ((s.drawFree drawn).storeBytes record payload).fillingRecord = some record := hrx
  generalize (s.drawFree drawn).storeBytes record payload = m at *
  by_cases hopen : verdict = .good ∧ (m.stream record.stream).state = .opened
  · rw [hopen.1, State.endData_good_of_opened hopen.2]
    exact hstored.frameJoins hstoring hopen.2
  · have hends := h.returnsReservation hrx hreturned (r := .awaitStart) rfl
    cases verdict with
    | countMismatch =>
      rw [State.endData_countMismatch]
      generalize m.returnReservation record = w at *
      exact hends.congr (.refl (w.setFeedRx .awaitStart))
    | checkMismatch =>
      rw [State.endData_checkMismatch]
      generalize m.returnReservation record = w at *
      exact hends.congr (.refl (w.setFeedRx .awaitStart))
    | good =>
      rw [State.endData_good_of_not_opened fun hstate => hopen ⟨rfl, hstate⟩]
      generalize m.returnReservation record = w at *
      exact hends.congr ((w.setFeedRx .awaitStart).lawSame_countStream record.stream fun c =>
        { c with refusedState := c.refusedState + 1#32 })

/-- R52: a frame in reception is cut short. -/
theorem State.Calm.cutStoring (h : s.Calm) (hrx : s.fillingRecord = some record) (drawn : Nat) (payload : List Byte) :
    (((((s.drawFree drawn).storeBytes record payload).returnReservation record).countFeedMalformed).setFeedRx (.header [] false)).Calm := by
  have hreturned := reservationReturned s record drawn payload
  generalize ((s.drawFree drawn).storeBytes record payload).returnReservation record = w at *
  exact (h.returnsReservation hrx hreturned (r := .header [] false) rfl).congr (.refl (w.setFeedRx (.header [] false)))

/-! ### Every effect of the feed link -/

theorem FeedEffect.calm {c : Instr} (hs : s.Calm) (h : FeedEffect c s u) : u.Calm := by
  cases h with
  | @header _ symbols bytes damaged hbytes =>
    have hdrawn : (s.drawFree (undecodedIn symbols)).Calm := hs.congr (.refl s)
    have hrx : (s.drawFree (undecodedIn symbols)).fillingRecord = none := State.fillingRecord_of_sinceStart (s := s) hbytes
    exact hdrawn.takeHeader hrx _ _
  | dataEnd hrx verdict => exact hs.endData (State.fillingRecord_storing hrx) _ _ verdict
  | cutHeader marker hbytes =>
    refine hs.of_feedRx ((FeedReceiver.afterCut_fillingRecord _ marker).trans (State.fillingRecord_of_sinceStart hbytes).symm) rfl
  | cutStoring hrx =>
    exact hs.cutStoring (State.fillingRecord_storing hrx) _ _
  | cutStaging hrx => exact hs.of_feedRx (by rw [State.fillingRecord, State.fillingRecord, hrx]; rfl) rfl
  | cutSkipping hrx => exact hs.of_feedRx (by rw [State.fillingRecord, State.fillingRecord, hrx]; rfl) rfl
  | ignored hrx => exact hs
  | skipped hrx => exact hs.of_feedRx (by rw [State.fillingRecord, State.fillingRecord, hrx]; rfl) rfl
  | stagedMalformed hrx hc drawn => exact hs.of_feedRx (by rw [State.fillingRecord, State.fillingRecord, hrx]; rfl) rfl
  | stagedCheckError hrx hc drawn => exact hs.of_feedRx (by rw [State.fillingRecord, State.fillingRecord, hrx]; rfl) rfl
  | stagedGood hrx hc hlength drawn =>
    refine HandOnEffect.calm (s := (s.drawFree drawn).setFeedRx .awaitStart) ?_ (.of_stagedHandOn hc _ _)
    exact hs.of_feedRx (by rw [State.fillingRecord, State.fillingRecord, hrx]; rfl) rfl

end

end Sys2Proof.Machine
end

section
/-!
The ends of transmissions, CARRIER and the device reset keep the laws (R64, R102, R105, R110, R162).
-/

namespace Sys2Proof.Machine

section
variable {s u : State} {v : Tag} {record : FrameRecord}

/-! ### The end of a transmission (R64, R110, R136, R148) -/

theorem Stream.completed_same (x : Stream) : x.completed.state = x.state ∧ x.completed.config = x.config ∧ x.completed.queue = x.queue ∧
    x.completed.occupancy = x.occupancy ∧ (x.timer ≠ .due → x.completed.timer ≠ .due) := by
  unfold Stream.completed
  split
  · exact ⟨rfl, rfl, rfl, rfl, fun _ => Timer.load_ne_due _ _⟩
  · exact ⟨rfl, rfl, rfl, rfl, id⟩

/-- R110: nothing is in transmission on the drain link. -/
theorem State.LinkLaw.drainEnds (h : s.LinkLaw) {notes : NoteBlock} (hforward : ∀ n c, notes.forward ≠ .sending n c)
    (hback : notes.back = s.notes.back) : ({ s with drainTx := none, notes := notes } : State).LinkLaw :=
  h.of_drain (fun hsome => absurd rfl hsome) (fun n => ⟨fun ⟨c, hc⟩ => absurd hc (hforward n c), nofun⟩) hback

/-- R110, R140: a note or a note indication toward the consumer has been sent. -/
theorem State.Calm.noteSent (h : s.Calm) (hdata : abandonedRecords s.drainTx = []) {notes : NoteBlock}
    (hforward : ∀ n c, notes.forward ≠ .sending n c) (hback : notes.back = s.notes.back) :
    ({ s with drainTx := none, notes := notes } : State).Calm := by
  refine ⟨h.table.congr rfl, h.custody.transmissionEnds rfl ?_ ?_ rfl (fun _ => rfl) fun _ => rfl, h.links.drainEnds hforward hback, h.due,
    h.settled⟩
  · rw [hdata]
    exact (List.append_nil _).symm
  · rw [hdata]
    exact (List.append_nil _).symm

theorem State.Calm.dataSent (h : s.Calm) {resident : Bool} {d : DrainTag} {x : Serial} (htx : s.drainTx = some (.data record resident d x)) :
    (s.completeData record resident).Calm := by
  have hup : s.carrier = .up := h.links.sending (by rw [htx]; exact Option.some_ne_none _)
  have hlinks : ({ s with drainTx := none } : State).LinkLaw :=
    h.links.drainEnds (h.links.forwardNote.not_sending (by rw [htx]; nofun)) rfl
  unfold State.completeData
  dsimp only
  cases resident with
  | true =>
    have hfree : ({ s with drainTx := none } : State).Calm := by
      refine ⟨h.table.congr rfl, h.custody.transmissionEnds rfl ?_ ?_ rfl (fun _ => rfl) fun _ => rfl, hlinks, h.due, h.settled⟩
      · rw [htx]
        exact (List.append_nil _).symm
      · rw [htx]
        exact (List.append_nil _).symm
    obtain ⟨hstate, hconfig, hqueue, hoccupancy, hdue⟩ := (s.stream record.stream).completed_same
    have hlaw := h.table.streams record.stream
    rw [hup] at hlaw
    refine hfree.updateStream (v := record.stream) ?_ ?_ hconfig hqueue hoccupancy (hdue (h.due _))
    · show (s.stream record.stream).completed.Law record.stream s.carrier
      rw [hup]
      exact hlaw.completed
    · show (s.stream record.stream).completed.state = .closed ↔ (s.stream record.stream).state = .closed
      rw [hstate]
  | false =>
    rw [if_neg Bool.false_ne_true]
    refine State.Calm.congr (s := { s with drainTx := none, pool := s.pool.giveBack [record] }) ?_ (State.lawSame_evaluatePoolFrom _ _)
    refine ⟨h.table.congr rfl, h.custody.transmissionEnds rfl ?_ ?_ rfl (fun _ => rfl) fun _ => rfl, hlinks.congr rfl, h.due, h.settled⟩
    · rw [htx]
      rfl
    · rw [htx]
      rfl

/-- R148, R171: what is in transmission on the feed link ends. -/
theorem State.Calm.feedEnds (h : s.Calm) {notes : NoteBlock} (hforward : notes.forward = s.notes.forward)
    (hback : ∀ n c, notes.back ≠ .sending n c) : ({ s with feedTx := none, notes := notes } : State).Calm :=
  h.of_links rfl rfl (h.links.of_feed nofun (fun n => ⟨fun ⟨c, hc⟩ => absurd hc (hback n c), nofun⟩) hforward)

theorem freeOldestAnswer_slotList {a : Response} {answers : List Response} {running : Option Request} {waiting : List Request} :
    freeOldestAnswer (slotList (a :: answers) running waiting) = slotList answers running waiting := rfl

/-- R148: the RESPONSE has been sent, and its slot is FREE. -/
theorem State.Calm.responseSent (h : s.Calm) {r : Response} (htx : s.feedTx = some (.response r)) :
    ({ s with feedTx := none, slots := freeOldestAnswer s.slots } : State).Calm := by
  obtain ⟨answers, running, waiting, hslots, hengine, hresponse⟩ := h.links.slotLaw
  obtain ⟨a, rest, rfl⟩ : ∃ a rest, answers = a :: rest := by
    cases answers with
    | nil => cases hresponse r htx
    | cons a rest => exact ⟨a, rest, rfl⟩
  have hback := h.links.backNote.not_sending (by rw [htx]; nofun)
  refine h.of_links rfl rfl (.of_slotLaw ⟨rest, running, waiting, ?_, hengine, nofun⟩ h.links.sending h.links.reception h.links.pin
    h.links.forwardNote fun n => ⟨fun ⟨c, hc⟩ => absurd hc (hback n c), nofun⟩)
  rw [hslots, freeOldestAnswer_slotList]

/-! ### The carrier (R102 to R106) -/

theorem Stream.Law.of_notUp {x : Stream} {t : Tag} {c d : Carrier} (h : x.Law t c) (hc : c ≠ .up) (hd : d ≠ .up) : x.Law t d :=
  h.of_carrier ⟨fun hr => absurd (h.timer.running hr).2 hc, fun _ _ => .inr hd, h.timer.armed⟩ fun hheld => absurd (h.held hheld) hc

/-- R102: the carrier goes from one state below UP to another. -/
theorem State.Calm.carrierBelowUp (h : s.Calm)
    (hframe : u = { s with carrier := u.carrier, carrierPin := u.carrierPin, resetPin := u.resetPin, freeCount := u.freeCount })
    (hc : s.carrier ≠ .up) (hd : u.carrier ≠ .up) (hsettled : u.carrier ≠ .settled)
    (hpin : u.carrierPin = true ↔ u.carrier ≠ .down) : u.Calm := by
  have hstream : ∀ t, u.stream t = s.stream t := fun t => by rw [hframe]; rfl
  have hsending : s.drainTx = none := by
    by_contra hsome
    exact hc (h.links.sending hsome)
  refine ⟨⟨fun t => ?_, fun d t => ?_⟩, h.custody.congr (by rw [hframe]; rfl), ?_, fun t => hstream t ▸ h.due t, hsettled⟩
  · rw [hstream]
    exact (h.table.streams t).of_notUp hc hd
  · rw [hstream, ← h.table.map, hframe]
    rfl
  · have hslots := h.links.slotLaw
    have hforward := h.links.forwardNote
    have hback := h.links.backNote
    have hreception := h.links.reception
    generalize hcarrier : u.carrier = c at *
    refine .of_slotLaw ?_ (fun hsome => ?_) (fun htaken => ?_) (fun _ => hcarrier ▸ hpin) ?_ ?_
    · rw [hframe]
      exact hslots
    · rw [hframe] at hsome
      exact absurd hsending hsome
    · rw [hframe] at htaken
      exact absurd (hreception htaken) hc
    · rw [hframe]
      exact hforward
    · rw [hframe]
      exact hback

/-- R102, R103: CARRIER and RESET_N at other levels. -/
theorem State.Calm.movePins (h : s.Calm) (hframe : u = { s with carrierPin := u.carrierPin, resetPin := u.resetPin, freeCount := u.freeCount })
    (hpin : u.Awake → (u.carrierPin = true ↔ s.carrier ≠ .down)) : u.Calm := by
  have hcarrier : u.carrier = s.carrier := by rw [hframe]
  have hlinks := h.links
  refine h.of_links (by rw [hframe]; rfl) (by rw [hframe]; rfl) ?_
  refine .of_slotLaw ?_ ?_ ?_ (fun hawake => hcarrier ▸ hpin hawake) ?_ ?_
  · rw [hframe]
    exact hlinks.slotLaw
  · rw [hframe]
    exact hlinks.sending
  · rw [hframe]
    exact hlinks.reception
  · rw [hframe]
    exact hlinks.forwardNote
  · rw [hframe]
    exact hlinks.backNote

theorem DrainReceiver.carrierLost_not_taken (r : DrainReceiver) : ¬ r.carrierLost.Taken := by
  cases r <;> rintro (h | ⟨received, damaged, h⟩) <;> cases h

/-- R105, R106: the carrier goes down from UP. -/
theorem State.Calm.carrierLoss (h : s.Calm) (hpin : u.carrierPin = false)
    (hframe : u = { s with carrierPin := u.carrierPin, resetPin := u.resetPin, freeCount := u.freeCount }) : u.carrierLoss.Calm := by
  have hstream : ∀ t, u.carrierLoss.stream t = (s.stream t).carrierLost := fun t => by
    rw [State.stream_carrierLoss, hframe]
    rfl
  have hcells : u.carrierLoss.pool.freeCells = s.pool.freeCells ++ (abandonedRecords s.drainTx).flatMap fun r => r.chain := by
    rw [State.carrierLoss_freeCells, hframe]
  have hrecords : u.carrierLoss.pool.freeRecords = s.pool.freeRecords ++ (abandonedRecords s.drainTx).map fun r => r.number := by
    rw [State.carrierLoss_freeRecords, hframe]
  have hloss := u.carrierLoss_frame
  generalize u.carrierLoss = w at *
  have hrx : w.feedRx = s.feedRx := by rw [hloss, hframe]
  have hcarrier : w.carrier = .down := by rw [hloss]
  refine ⟨h.table.mapStreams (fun t => (h.table.streams t).carrierLost (h.due t)) (fun _ => rfl) (fun _ => rfl) hcarrier hstream
    (fun d => by rw [hloss, hframe]; rfl), h.custody.transmissionEnds (by rw [hloss]) hcells hrecords
    (State.fillingRecord_of_feedRx hrx) (fun t => by rw [hstream]; rfl) fun t => by rw [hstream]; rfl, ?_, fun t => ?_, ?_⟩
  · refine .of_slotLaw ?_ (fun hsome => ?_) (fun htaken => ?_) (fun _ => ?_) (fun n => ?_) ?_
    · rw [hloss, hframe]
      exact h.links.slotLaw
    · rw [hloss] at hsome
      exact absurd rfl hsome
    · rw [hloss] at htaken
      exact absurd htaken (DrainReceiver.carrierLost_not_taken _)
    · rw [hcarrier, hloss]
      simp [hpin]
    · rw [hloss]
      exact ⟨fun ⟨c, hc⟩ => absurd hc (NoteSlot.carrierLost_not_sending _ n c), nofun⟩
    · rw [hloss, hframe]
      exact h.links.backNote
  · rw [hstream]
    have hdue := h.due t
    unfold Stream.carrierLost
    dsimp only
    cases htimer : (s.stream t).timer <;> simp [htimer, Timer.freeze] at hdue ⊢
  · rw [hcarrier]
    exact Carrier.noConfusion

/-- R102, R105: the carrier follows CARRIER. -/
theorem State.Calm.followCarrier (h : s.Calm)
    (hframe : u = { s with carrierPin := u.carrierPin, resetPin := u.resetPin, freeCount := u.freeCount }) : u.followCarrier.Calm := by
  have hcarrier : u.carrier = s.carrier := by rw [hframe]
  have hsettled := h.settled
  have hstays : (u.carrierPin = true ↔ s.carrier ≠ .down) → u.Calm := fun hpin => h.movePins hframe fun _ => hpin
  have hmoves : ∀ c : Carrier, s.carrier ≠ .up → c ≠ .up → c ≠ .settled → (u.carrierPin = true ↔ c ≠ .down) →
      ({ u with carrier := c } : State).Calm := fun c hs hup hset hpin => by
    refine h.carrierBelowUp ?_ hs hup hset hpin
    dsimp only
    generalize u.carrierPin = p at *
    generalize u.resetPin = q at *
    generalize u.freeCount = n at *
    rw [hframe]
  unfold State.followCarrier
  split
  · next hpin hc => exact hmoves _ (by rw [← hcarrier, hc]; nofun) nofun nofun (by simp [hpin])
  · next hpin hc => exact hstays (by simp [hpin, ← hcarrier, hc])
  · next hpin hc => exact hstays (by simp [hpin, ← hcarrier, hc])
  · next hpin hc => exact hstays (by simp [hpin, ← hcarrier, hc])
  · next hpin hc => exact hstays (by simp [hpin, ← hcarrier, hc])
  · next hpin hc => exact hmoves _ (by rw [← hcarrier, hc]; nofun) nofun nofun (by simp [hpin])
  · next hpin hc => exact hmoves _ (by rw [← hcarrier, hc]; nofun) nofun nofun (by simp [hpin])
  · next hpin hc => exact h.carrierLoss hpin hframe

theorem State.Calm.setCarrierPin (h : s.Calm) (present : Bool) : (s.setCarrierPin present).Calm := by
  unfold State.setCarrierPin
  dsimp only
  split
  · exact h.followCarrier rfl
  · next hasleep => exact h.movePins rfl fun hawake => absurd hawake hasleep

/-- R184: the end of a short pulse from which the part carries on. -/
theorem State.Calm.carryOn (h : s.Calm) (hframe : u = { s with carrierPin := u.carrierPin, resetPin := u.resetPin, freeCount := u.freeCount }) :
    u.carryOn.Calm := by
  unfold State.carryOn
  split
  · exact h.followCarrier hframe
  · next hasleep => exact h.movePins hframe fun hawake => absurd hawake hasleep

/-- R184: a short pulse begins. -/
theorem State.Calm.shortPulse (h : s.Calm) : s.shortPulse.Calm := by
  unfold State.shortPulse
  split
  · exact h.movePins rfl fun hawake => nomatch hawake.2
  · exact h
  · exact h

/-! ### Device reset (R4 to R6, R162) -/

/-- R162: all blocks but the stream table at their values after reset. -/
structure State.BlocksReset (s : State) : Prop where
  pool : s.pool = { freeCells := List.range 8192, freeRecords := List.range 2048, level := .normal }
  feed : s.feedRx = .awaitStart ∧ s.feedTx = none
  drain : s.drainRx = .awaitStart ∧ s.drainTx = none
  carrier : s.carrier = carrierFrom s.carrierPin 50
  notes : s.notes.forward = .empty ∧ s.notes.back = .empty
  slots : s.slots = []

theorem State.BlocksReset.custody (h : s.BlocksReset) (hqueue : ∀ t, (s.stream t).queue = [] ∧ (s.stream t).occupancy = 0) :
    s.CustodyLaw := by
  have hfilling : s.fillingRecord = none := by rw [State.fillingRecord, h.feed.1]
  have hheld : s.heldRecords = [] := by
    have hresident : s.resident = [] := List.flatMap_eq_nil_iff.2 fun t _ => (hqueue t).1
    rw [State.heldRecords_eq, hfilling, hresident, State.deferredRecord, h.drain.2]
    rfl
  refine ⟨?_, ?_, fun t => ?_, fun r hr => ?_, fun r d x htx => ?_⟩
  · rw [State.CellLaw, hheld, h.pool, List.flatMap_nil, List.append_nil]
  · rw [State.RecordLaw, hheld, h.pool, List.map_nil, List.append_nil]
  · rw [(hqueue t).1, (hqueue t).2, State.fillingCells, hfilling]
    rfl
  · rw [hfilling] at hr
    cases hr
  · rw [h.drain.2] at htx
    cases htx

theorem carrierFrom_not_down (pin : Bool) (n : Nat) : (pin = true ↔ carrierFrom pin n ≠ .down) ∧ carrierFrom pin n ≠ .settled := by
  cases pin <;> simp [carrierFrom]

theorem State.BlocksReset.links (h : s.BlocksReset) : s.LinkLaw := by
  refine .of_slotLaw ⟨[], none, [], h.slots, fun _ _ => rfl, fun r hr => ?_⟩ (fun hsome => absurd h.drain.2 hsome) (fun htaken => ?_)
    (fun _ => ?_) (fun n => ?_) fun n => ?_
  · rw [h.feed.2] at hr
    cases hr
  · rw [h.drain.1] at htaken
    exact absurd htaken DrainReceiver.awaitStart_not_taken
  · rw [h.carrier]
    exact (carrierFrom_not_down _ _).1
  · rw [h.notes.1, h.drain.2]
    exact ⟨nofun, nofun⟩
  · rw [h.notes.2, h.feed.2]
    exact ⟨nofun, nofun⟩

/-- R4: the record of a stream that has not been opened since a reset. -/
theorem Stream.fresh_law {x : Stream} {t : Tag} {c : Carrier} {config : StreamConfig} {budget : Nat}
    (h : x = { config := config, budget := budget }) : x.Law t c := by
  subst h
  exact Stream.closing_law (x := { config := config, budget := budget }) rfl rfl rfl rfl

/-- R4, R6: the stream table after a reset, before AUTOOPEN. -/
theorem State.tableLaw_of_fresh (hstream : ∀ t, ∃ config budget, s.stream t = { config := config, budget := budget })
    (hmapped : ∀ d, s.mapped d = none) : s.TableLaw := by
  refine ⟨fun t => ?_, fun d t => ?_⟩
  · obtain ⟨config, budget, hself⟩ := hstream t
    exact Stream.fresh_law hself
  · obtain ⟨config, budget, hself⟩ := hstream t
    rw [hmapped, hself]
    exact ⟨nofun, fun h => absurd rfl h.1⟩

theorem State.Calm.of_reset (h : s.BlocksReset) (hstream : ∀ t, ∃ config budget, s.stream t = { config := config, budget := budget })
    (hmapped : ∀ d, s.mapped d = none) : s.Calm := by
  refine ⟨State.tableLaw_of_fresh hstream hmapped, h.custody fun t => ?_, h.links, fun t => ?_, ?_⟩
  · obtain ⟨config, budget, hself⟩ := hstream t
    rw [hself]
    exact ⟨rfl, rfl⟩
  · obtain ⟨config, budget, hself⟩ := hstream t
    rw [hself]
    exact Timer.noConfusion
  · rw [h.carrier]
    exact (carrierFrom_not_down _ _).2

/-- R6, R10: a CLOSED stream whose drain tag is free opens. -/
theorem State.Calm.openAt (h : s.Calm) (serial : Serial) (hclosed : (s.stream v).state = .closed)
    (hfree : s.mapped (s.stream v).config.drainTag = none) : (s.openAt v serial).Calm := by
  have hstream : ∀ t, ((s.openAt v serial).stream t).queue = (s.stream t).queue ∧
      ((s.openAt v serial).stream t).occupancy = (s.stream t).occupancy ∧ ((s.openAt v serial).stream t).timer ≠ .due := fun t => by
    rw [State.stream_openAt]
    split
    · next ht =>
      rw [ht]
      exact ⟨rfl, rfl, Timer.noConfusion⟩
    · exact ⟨rfl, rfl, h.due t⟩
  have htable := h.table.openAt serial hclosed hfree
  have hframe : s.openAt v serial = { s with streams := (s.openAt v serial).streams, drainMap := (s.openAt v serial).drainMap } := by
    apply State.ext <;> simp
  generalize s.openAt v serial = u at *
  have hfilling : u.fillingRecord = s.fillingRecord := State.fillingRecord_of_feedRx (by rw [hframe])
  have hcustody : u.custodyView = s.custodyView := by
    simp only [State.custodyView, (hstream _).1, (hstream _).2.1, hfilling]
    rw [hframe]
  have hcarrier : u.carrier = s.carrier := by rw [hframe]
  exact ⟨htable, h.custody.congr hcustody, h.links.congr (by rw [hframe]; rfl), fun t => (hstream t).2.2, hcarrier ▸ h.settled⟩

/-- R6: AUTOOPEN opens the streams in ascending order; their drain tags differ. -/
theorem State.Calm.openAll (l : List Tag) (hl : l.Nodup) (h : s.Calm)
    (hclosed : ∀ t ∈ l, (s.stream t).state = .closed ∧ s.mapped (s.stream t).config.drainTag = none)
    (hdistinct : ∀ t w, (s.stream t).config.drainTag = (s.stream w).config.drainTag → t = w) :
    (l.foldl (fun s t => s.openAt t 0#12) s).Calm := by
  induction l generalizing s with
  | nil => exact h
  | cons v rest ih =>
    obtain ⟨hv, hrest⟩ := List.nodup_cons.1 hl
    obtain ⟨hvclosed, hvfree⟩ := hclosed v List.mem_cons_self
    have hconfig : ∀ t, ((s.openAt v 0#12).stream t).config = (s.stream t).config := fun t => by
      rw [State.stream_openAt]
      split
      · next ht =>
        rw [ht]
        rfl
      · rfl
    refine ih hrest (h.openAt 0#12 hvclosed hvfree) (fun t ht => ?_) fun t w he => ?_
    · have htv : t ≠ v := fun he => hv (he ▸ ht)
      obtain ⟨htclosed, htfree⟩ := hclosed t (List.mem_cons_of_mem _ ht)
      refine ⟨?_, ?_⟩
      · rw [State.stream_openAt, if_neg htv]
        exact htclosed
      · rw [hconfig, State.mapped_openAt, if_neg fun he => htv (hdistinct t v he)]
        exact htfree
    · rw [hconfig, hconfig] at he
      exact hdistinct t w he

/-- R162: the part after a device reset. -/
theorem State.deviceReset_calm (s : State) (straps : Straps) : (s.deviceReset straps).Calm := by
  have hblocks : (s.resetBlocks straps).Calm :=
    State.Calm.of_reset ⟨rfl, ⟨rfl, rfl⟩, ⟨rfl, rfl⟩, rfl, ⟨rfl, rfl⟩, rfl⟩ (fun t => ⟨_, _, s.stream_resetBlocks straps t⟩)
      fun d => s.mapped_resetBlocks straps d
  unfold State.deviceReset State.openAllStreams
  split
  · refine hblocks.openAll allTags allTags_nodup (fun t _ => ⟨?_, s.mapped_resetBlocks straps _⟩) fun t w he => ?_
    · rw [State.stream_resetBlocks]
    · rw [State.stream_resetBlocks, State.stream_resetBlocks] at he
      have hnumber := congrArg Fin.val he
      rw [profileConfig_drainTag, profileConfig_drainTag] at hnumber
      exact Fin.ext (Nat.succ.inj hnumber)
  · exact hblocks

/-! ### Completions -/

theorem CompletionEffect.calm {c : Instr} (hs : s.Calm) (h : CompletionEffect c s u) : u.Calm := by
  cases h with
  | data htx => exact hs.dataSent htx
  | forwardNote htx => exact hs.noteSent (by rw [htx]; rfl) s.notes.forward.complete_not_sending rfl
  | noteDone htx => exact hs.noteSent (by rw [htx]; rfl) (hs.links.forwardNote.not_sending (by rw [htx]; nofun)) rfl
  | noteRefused htx => exact hs.noteSent (by rw [htx]; rfl) (hs.links.forwardNote.not_sending (by rw [htx]; nofun)) rfl
  | resetting straps htx hends => exact s.deviceReset_calm straps
  | response straps htx hends => exact hs.responseSent htx
  | backNote htx => exact hs.feedEnds rfl s.notes.back.complete_not_sending
  | feedFrame htx hresponse hnote =>
    refine hs.feedEnds (notes := s.notes) rfl (hs.links.backNote.not_sending fun n hn => hnote n ?_)
    exact Option.some.inj (htx.symm.trans hn)

end

end Sys2Proof.Machine
end

section
/-!
Every command keeps the laws (O60), and the part right after reset has them (O58).
-/

namespace Sys2Proof.Machine

section
variable {s u : State} {v : Tag}

/-! ### Requests (R10 to R23, R82 to R86, R143, R155, R159, R160) -/

/-- A step on the stream table that leaves the queues, the occupancies and every other block. -/
theorem State.Calm.of_table (h : s.Calm) (htable : u.TableLaw)
    (hstream : ∀ t, (u.stream t).queue = (s.stream t).queue ∧ (u.stream t).occupancy = (s.stream t).occupancy ∧ (u.stream t).timer ≠ .due)
    (hframe : u = { s with streams := u.streams, drainMap := u.drainMap }) : u.Calm := by
  have hfilling : u.fillingRecord = s.fillingRecord := State.fillingRecord_of_feedRx (by rw [hframe])
  have hcarrier : u.carrier = s.carrier := by rw [hframe]
  have hcustody : u.custodyView = s.custodyView := by
    simp only [State.custodyView, (hstream _).1, (hstream _).2.1, hfilling]
    rw [hframe]
  exact ⟨htable, h.custody.congr hcustody, h.links.congr (by rw [hframe]; rfl), fun t => (hstream t).2.2, hcarrier ▸ h.settled⟩

theorem State.Calm.writeConfig (h : s.Calm) {k : StreamConfig}
    (hstate : (s.stream v).state = .closed ∨ k.drainTag = (s.stream v).config.drainTag) : (s.writeConfig v k).Calm := by
  have htable := h.table.writeConfig hstate
  rw [State.writeConfig_eq] at htable ⊢
  refine h.of_table htable (fun t => ?_) rfl
  rw [State.stream_setStream]
  split
  · next ht =>
    rw [ht]
    exact ⟨rfl, rfl, h.due v⟩
  · exact ⟨rfl, rfl, h.due t⟩

theorem State.Calm.enterClosed (h : s.Calm) (hopen : (s.stream v).state ≠ .closed) (hqueue : (s.stream v).queue = []) :
    (s.enterClosed v).Calm := by
  refine h.of_table (h.table.enterClosed hopen hqueue) (fun t => ?_) (by apply State.ext <;> simp)
  rw [State.stream_enterClosed]
  split
  · next ht =>
    rw [ht]
    exact ⟨rfl, rfl, Timer.noConfusion⟩
  · exact ⟨rfl, rfl, h.due t⟩

theorem State.Calm.startDrain (h : s.Calm) (hstate : (s.stream v).state = .opened) (hqueue : (s.stream v).queue ≠ []) :
    (s.updateStream v Stream.startDrain).Calm := by
  refine h.updateStream ((h.table.streams v).startDrain hqueue) ⟨nofun, fun hc => ?_⟩ rfl rfl rfl (h.due v)
  rw [hstate] at hc
  cases hc

theorem State.Calm.restart (h : s.Calm) (hstate : (s.stream v).state = .halted) : (s.updateStream v Stream.restart).Calm := by
  refine h.updateStream ((h.table.streams v).restart hstate) ⟨nofun, fun hc => ?_⟩ rfl rfl rfl Timer.noConfusion
  rw [hstate] at hc
  cases hc

/-- Steps that release frames and touch no more than the tables, the pool, the mark and the event queue. -/
theorem State.Calm.of_release (h : s.Calm) {gone : List FrameRecord} (htable : u.TableLaw) (hcustody : u.CustodyLaw)
    (hreleased : ReleasedTo s u gone) (hdue : ∀ t, (u.stream t).timer ≠ .due)
    (hframe : u = { s with streams := u.streams, drainMap := u.drainMap, pool := u.pool, drainTx := u.drainTx, events := u.events }) :
    u.Calm :=
  have hcarrier : u.carrier = s.carrier := by rw [hframe]
  ⟨htable, hcustody, h.links.released hreleased hframe, hdue, hcarrier ▸ h.settled⟩

theorem State.Calm.discardClose (h : s.Calm) (hopen : (s.stream v).state ≠ .closed) : (s.discardClose v).Calm := by
  refine h.of_release (h.table.discardClose hopen) (h.custody.discardClose v) (s.discardClose_releasedTo v) (fun t => ?_)
    (s.discardClose_frame v)
  rw [State.stream_discardClose]
  split
  · exact Timer.noConfusion
  · exact h.due t

theorem State.Calm.flush (h : s.Calm) (serial : Serial) (hopen : (s.stream v).state ≠ .closed) : (s.flush v serial).Calm :=
  h.releaseStep (State.releaseStep_flush hopen) ((s.stream v).collapse_keeps serial s.carrier) hopen Timer.noConfusion

theorem Stream.discarded_timer_ne_due {x : Stream} (h : x.timer ≠ .due) : x.discarded.timer ≠ .due := by
  cases hstate : x.state with
  | closed => rwa [Stream.discarded_closed hstate]
  | opened => rw [Stream.discarded_opened hstate]; exact Timer.noConfusion
  | draining => rw [Stream.discarded_draining hstate]; exact Timer.noConfusion
  | halted => rw [Stream.discarded_halted hstate]; exact Timer.noConfusion

theorem State.Calm.discardAllStreams (h : s.Calm) : s.discardAllStreams.Calm := by
  have hall := s.discardsAll_foldl allTags allTags_nodup
  refine State.Calm.congr (s := allTags.foldl State.discardStream s) ?_ (State.lawSame_evaluatePoolFrom _ _)
  generalize allTags.foldl State.discardStream s = m at *
  refine h.of_release (h.table.discardsAll hall) (h.custody.discardsAll hall) hall.released (fun t => ?_) hall.frame
  rw [hall.streams, if_pos (mem_allTags t)]
  exact Stream.discarded_timer_ne_due (h.due t)

/-- R160: RESET-DEVICE marks a reset. -/
theorem State.Calm.markReset (h : s.Calm) : ({ s with resetPending := true } : State).Calm := by
  obtain ⟨answers, running, waiting, hslots, -, hresponse⟩ := h.links.slotLaw
  exact h.of_links rfl rfl (.of_slotLaw ⟨answers, running, waiting, hslots, nofun, hresponse⟩ h.links.sending h.links.reception h.links.pin
    h.links.forwardNote h.links.backNote)

theorem RequestEffect.calm {c : Instr} (hs : s.Calm) (h : RequestEffect c s u) : u.Calm := by
  cases h with
  | none => exact hs
  | settings x hx => exact State.Calm.congr (s := { s with settings := x }) (hs.congr (.refl s)) (State.lawSame_evaluatePool _)
  | config v k hk hstate => exact hs.writeConfig hstate
  | opens v serial hstate hfree => exact hs.openAt serial hstate hfree
  | closes hc v hstate hqueue => exact hs.enterClosed (by rw [hstate]; exact StreamState.noConfusion) hqueue
  | drains hc v hstate hqueue => exact hs.startDrain hstate hqueue
  | discards hc v hstate => exact hs.discardClose hstate
  | flush v serial hstate => exact hs.flush serial hstate
  | restart v hstate => exact hs.restart hstate
  | clearPort => exact hs.congr (.refl s)
  | clearStream v => exact hs.congr (s.lawSame_countStream v _)
  | clearForward => exact hs.setNotes s.notes.forward.clear_sending fun _ => Iff.rfl
  | clearBack => exact hs.setNotes (fun _ => Iff.rfl) s.notes.back.clear_sending
  | discardAll => exact hs.discardAllStreams
  | reset => exact hs.markReset

theorem State.LawSame.slots (h : s.LawSame u) : u.slots = s.slots := by
  obtain ⟨-, -, hlinks⟩ := h
  simp only [State.links, Prod.mk.injEq] at hlinks
  obtain ⟨-, -, -, -, -, -, -, -, -, hslots, -⟩ := hlinks
  exact hslots

/-- R147: the effect of a request leaves the slots. -/
theorem RequestEffect.slots {c : Instr} (h : RequestEffect c s u) : u.slots = s.slots := by
  cases h with
  | none => rfl
  | settings x hx => exact State.evaluatePool_slots ..
  | config v k hk hstate => rw [State.writeConfig_eq, State.setStream_slots]
  | opens v serial hstate hfree => exact State.openAt_slots ..
  | closes hc v hstate hqueue => exact State.enterClosed_slots ..
  | drains hc v hstate hqueue => exact State.updateStream_slots ..
  | discards hc v hstate => rw [State.discardClose_frame]
  | flush v serial hstate => rw [(State.releaseStep_flush hstate).frame]
  | restart v hstate => exact State.updateStream_slots ..
  | clearPort => rfl
  | clearStream v => exact State.countStream_slots ..
  | clearForward => rfl
  | clearBack => rfl
  | discardAll =>
    have hframe := (s.discardsAll_foldl allTags allTags_nodup).frame
    rw [State.discardAllStreams, State.evaluatePoolFrom_slots]
    generalize allTags.foldl State.discardStream s = m at *
    rw [hframe]
  | reset => rfl

/-! ### Every command beside what is owed -/

theorem BesideEffect.lawful {c : Instr} (hs : s.phase = .running → s.Calm) (h : BesideEffect c s u) : u.Lawful := by
  cases h with
  | notTaken hc hawake => exact fun hphase => (hs hphase).law
  | feed hawake he => exact fun _ => (FeedEffect.calm (hs hawake.1) he).law
  | drain hawake he => exact fun _ => (ReturnEffect.calm (hs hawake.1) he).law
  | complete hawake he => exact fun _ => (CompletionEffect.calm (hs hawake.1) he).law
  | carrier present =>
    intro hphase
    refine ((hs ?_).setCarrierPin present).law
    by_contra hreset
    rw [State.setCarrierPin, if_neg fun hawake : s.Awake => hreset hawake.1] at hphase
    exact hreset hphase
  | @answer _ _ effect r hc hphase hr =>
    have heffect := RequestEffect.of_requestEffect hc r s
    refine fun _ => ((heffect.calm (hs hphase)).answer ?_ _ _).law
    rw [heffect.slots, hr]

/-! ### The tick and RESET_N -/

theorem State.tickOwes_setAtTick (s : State) (b : Bool) : (s.setAtTick b).tickOwes = s.tickOwes := rfl

theorem State.tick_tickOwes (s : State) : s.tick.tickOwes = s.lowerCounts.tickOwes := State.tickOwes_setAtTick _ _

/-- R90, R102: what a tick makes due is noted, and the laws hold while it is owed. -/
theorem State.Calm.tick (h : s.Calm) : s.tick.Law := by
  have hstream : ∀ t, s.tick.stream t = { s.stream t with timer := (s.stream t).timer.tick } := fun t => State.stream_tick t
  have hframe := s.tick_frame
  generalize s.lowerCounts.streams = streams at hframe
  generalize s.lowerCounts.tickOwes = owes at hframe
  have htick : s.tick.tickOwes = true → s.tick.atTick = true := fun howes => by rwa [State.tick_atTick, ← State.tick_tickOwes]
  generalize s.tick = u at *
  have hcarrier : u.carrier = s.carrier.tick := by rw [hframe]
  have hup : s.carrier = .up → u.carrier = .up := fun hc => by rw [hcarrier, hc]; rfl
  have hdown : u.carrier ≠ .down ↔ s.carrier ≠ .down := by
    rw [hcarrier]
    cases s.carrier with
    | settling n =>
      rw [Carrier.tick]
      split <;> simp
    | down => simp [Carrier.tick]
    | settled => simp [Carrier.tick]
    | up => simp [Carrier.tick]
  have hcustody : u.custodyView = s.custodyView := by
    have hfilling : u.fillingRecord = s.fillingRecord := State.fillingRecord_of_feedRx (by rw [hframe])
    simp only [State.custodyView, hstream, hfilling]
    rw [hframe]
  have hlinks := h.links
  refine State.law_iff.2 ⟨h.table.mapStreams (f := fun x => { x with timer := x.timer.tick }) (fun t => (h.table.streams t).tick)
    (fun _ => rfl) (fun _ => rfl) hcarrier hstream fun _ => by rw [hframe]; rfl, h.custody.congr hcustody, ?_, htick⟩
  have hslots : SlotLaw u.slots u.resetPending u.feedTx := by
    rw [hframe]
    exact hlinks.slotLaw
  refine .of_slotLaw hslots (fun hsome => hup (hlinks.sending ?_)) (fun htaken => hup (hlinks.reception ?_)) (fun hawake => ?_) ?_ ?_
  · rw [hframe] at hsome
    exact hsome
  · rw [hframe] at htaken
    exact htaken
  · rw [hdown]
    rw [hframe] at hawake ⊢
    exact hlinks.pin hawake
  · rw [hframe]
    exact hlinks.forwardNote
  · rw [hframe]
    exact hlinks.backNote

theorem AloneEffect.lawful {c : Instr} (hs : s.phase = .running → s.Calm) (h : AloneEffect c s u) : u.Lawful := by
  cases h with
  | powerUp high => exact nofun
  | longPulse => exact nofun
  | shortPulse =>
    intro hphase
    refine (State.Calm.shortPulse (hs ?_)).law
    rw [s.shortPulse_eq] at hphase
    exact hphase
  | reset straps hpin => exact fun _ => (s.deviceReset_calm straps).law
  | risen straps hpin => exact fun _ => (State.deviceReset_calm _ straps).law
  | shortPulseEnd straps hpin =>
    intro hphase
    unfold State.endShortPulse at *
    dsimp only at *
    split at hphase
    · next hresets =>
      rw [if_pos hresets]
      exact (State.deviceReset_calm _ straps).law
    · next hcarries =>
      rw [if_neg hcarries]
      refine (State.Calm.carryOn (hs ?_) rfl).law
      by_contra hreset
      rw [State.carryOn, if_neg fun hawake => hreset hawake.1] at hphase
      exact hreset hphase
  | tick hphase => exact fun _ => (hs hphase).tick
  | tickHeld hphase => exact fun hrunning => absurd (hphase.symm.trans hrunning) Phase.noConfusion

/-! ### Every command -/

theorem State.Law.settle_calm (h : s.Law) (hrange : s.InRange) (hphase : s.phase = .running) : s.settle.Calm :=
  (keptByOwed_law.settle ⟨hrange, h⟩).2.calm (State.tickOwes_settle hphase)

theorem OwnEffect.lawful {c : Instr} (hrange : s.InRange) (hs : s.Lawful) (h : OwnEffect c s u) : u.Lawful := by
  cases h with
  | expiry t hphase hdue => exact fun _ => (hs hphase).expire hdue
  | settled hphase hsettled => exact fun _ => (hs hphase).carrierUp hsettled
  | drain k hdecision hframe => exact fun _ => (hs (State.drainDecision_eq_some.1 hdecision).1.1.1).decideDrain hrange
  | feed k hdecision => exact fun _ => (hs (State.feedDecision_eq_some.1 hdecision).1.1.1).decideFeed

theorem State.Lawful.exec {c : Instr} (h : s.Lawful) (hrange : s.InRange) (he : exec c s = .next u) : u.Lawful := by
  cases exec_next_cases he with
  | own he => exact he.lawful hrange h
  | alone he => exact he.lawful fun hphase => (h (s.settle_phase.symm.trans hphase)).settle_calm hrange (s.settle_phase.symm.trans hphase)
  | beside he => exact he.lawful fun hphase => (h (s.found_phase.symm.trans hphase)).found_calm hrange (s.found_phase.symm.trans hphase)

end

end Sys2Proof.Machine
end

section
/-!
No command but the start of a DATA transmission can stop in a fault; in a lawful state it does not either (R61, R63; log 29). Settles O60
and O58.
-/

namespace Sys2Proof.Machine

/-- The command answers a next state or is refused. -/
def Result.Faultless (r : Result) : Prop := ∀ f, r ≠ .fault f

section
variable {s u : State} {c : Instr}

theorem Result.faultless_next (s : State) : Result.Faultless (.next s) := nofun

theorem Result.faultless_refused (r : Refusal) : Result.Faultless (.refused r) := nofun

theorem State.onInput_faultless {effect : State → Result} (h : ∀ s, (effect s).Faultless) (s : State) : (s.onInput effect).Faultless := by
  unfold State.onInput State.besideOwed
  dsimp only
  split
  · exact h _
  · exact Result.faultless_next _

theorem State.onTransmission_faultless {effect : State → Result} (h : ∀ s, (effect s).Faultless) (mnemonic : String) (s : State) :
    (s.onTransmission mnemonic effect).Faultless := by
  unfold State.onTransmission State.besideOwed
  dsimp only
  split
  · exact h _
  · exact Result.faultless_refused _

theorem State.endStaged_faultless (s : State) (kind : Byte) (mnemonic : String) (symbols : List LaneSymbol)
    (handOn : List Byte → State → State) : (s.endStaged kind mnemonic symbols handOn).Faultless := by
  refine State.onInput_faultless (fun s => ?_) s
  split
  · split
    · dsimp only
      split
      · exact Result.faultless_next _
      · exact Result.faultless_next _
      · exact Result.faultless_next _
    · exact Result.faultless_refused _
  all_goals exact Result.faultless_refused _

theorem State.endReturn_faultless {good : List Byte → State → Result} (h : ∀ bytes s, (good bytes s).Faultless) (s : State) :
    (s.endReturn good).Faultless := by
  unfold State.endReturn
  dsimp only
  split
  · split
    · exact Result.faultless_next _
    · exact Result.faultless_next _
    · exact h _ _
  all_goals exact Result.faultless_next _

theorem State.onReturn_faultless (s : State) (mnemonic : String) (part : FramePart) (frame : List Byte) (effect : State → State) :
    (s.onReturn mnemonic part frame effect).Faultless := by
  refine State.onInput_faultless (fun s => ?_) s
  have hends := fun u : State => u.endReturn_faultless (good := fun bytes ended =>
    if bytes = frame then .next (effect ended) else .refused (.notPossible mnemonic)) fun bytes ended => by
      split
      · exact Result.faultless_next _
      · exact Result.faultless_refused _
  cases part with
  | opening count => exact Result.faultless_next _
  | whole => exact hends _
  | closing => exact hends _

theorem State.effectStep_faultless (s : State) (mnemonic : String) (takes : Request → Bool) (effect : Request → State → Answer) :
    (s.effectStep mnemonic takes effect).Faultless := by
  unfold State.effectStep State.besideOwed
  dsimp only
  split
  · split
    · exact Result.faultless_next _
    · exact Result.faultless_refused _
  · exact Result.faultless_refused _

theorem execFeedFrameCutShort_faultless (marker : Marker) (symbols : List LaneSymbol) (s : State) :
    (execFeedFrameCutShort marker symbols s).Faultless := by
  have hcut : ∀ (s : State) (received : List Byte), (s.cutHeader marker received).Faultless := fun s received => by
    unfold State.cutHeader
    split
    · exact Result.faultless_next _
    · exact Result.faultless_refused _
  refine State.onInput_faultless (fun s => ?_) s
  dsimp only
  split
  case h_1 => exact hcut _ _
  case h_2 => exact hcut _ _
  all_goals nofun

theorem exec_faultless (hc : c ≠ .dataTransmissionStart) (s : State) : Result.Faultless (exec c s) := by
  cases c with
  | powerUp high => exact Result.faultless_next _
  | resetNLow pulse => cases pulse <;> exact Result.faultless_next _
  | deviceReset straps =>
    show (execDeviceReset straps s).Faultless
    unfold execDeviceReset State.afterOwed
    dsimp only
    split <;> exact Result.faultless_next _
  | tick =>
    show (execTick s).Faultless
    unfold execTick State.afterOwed
    dsimp only
    split <;> exact Result.faultless_next _
  | feedHeader symbols =>
    show Result.Faultless (execFeedHeader symbols s)
    refine State.onInput_faultless (fun s => ?_) s
    dsimp only
    split <;> nofun
  | dataFrameEnd symbols =>
    show Result.Faultless (execDataFrameEnd symbols s)
    refine State.onInput_faultless (fun s => ?_) s
    dsimp only
    split <;> nofun
  | feedFrameCutShort marker symbols => exact execFeedFrameCutShort_faultless marker symbols s
  | feedFrameIgnored symbols =>
    show Result.Faultless (execFeedFrameIgnored symbols s)
    refine State.onInput_faultless (fun s => ?_) s
    split <;> nofun
  | skippingFrameEnd symbols =>
    show Result.Faultless (execSkippingFrameEnd symbols s)
    refine State.onInput_faultless (fun s => ?_) s
    split <;> nofun
  | requestArrival symbols => exact show Result.Faultless (execRequestArrival symbols s) from s.endStaged_faultless _ _ _ _
  | producerNote symbols => exact show Result.Faultless (execProducerNote symbols s) from s.endStaged_faultless _ _ _ _
  | producerNoteTaken symbols => exact show Result.Faultless (execProducerNoteTaken symbols s) from s.endStaged_faultless _ _ _ _
  | ack part fields => exact s.onReturn_faultless _ _ _ _
  | replay part fields => exact s.onReturn_faultless _ _ _ _
  | hold frame => exact s.onReturn_faultless _ _ _ _
  | resume frame => exact s.onReturn_faultless _ _ _ _
  | consumerNote part fields => exact s.onReturn_faultless _ _ _ _
  | consumerNoteTaken frame => exact s.onReturn_faultless _ _ _ _
  | drainFrameDropped extent symbols =>
    show Result.Faultless (execDrainFrameDropped extent symbols s)
    refine State.onInput_faultless (fun s => ?_) s
    dsimp only
    split
    · exact Result.faultless_next _
    · exact Result.faultless_next _
    · exact State.endReturn_faultless (fun _ _ => Result.faultless_refused _) _
  | returnFrameDiscarded portion =>
    show Result.Faultless (execReturnFrameDiscarded portion s)
    refine State.onInput_faultless (fun s => ?_) s
    dsimp only
    split <;> nofun
  | timerExpiry v =>
    show (execTimerExpiry v s).Faultless
    unfold execTimerExpiry
    split <;> nofun
  | carrierSettled =>
    show (execCarrierSettled s).Faultless
    unfold execCarrierSettled
    split <;> nofun
  | dataTransmissionStart => exact absurd rfl hc
  | forwardNoteStart =>
    show (execForwardNoteStart s).Faultless
    unfold execForwardNoteStart
    split <;> nofun
  | drainIndicationStart =>
    show (execDrainIndicationStart s).Faultless
    unfold execDrainIndicationStart
    split <;> nofun
  | flowFrameStart =>
    show (execFlowFrameStart s).Faultless
    unfold execFlowFrameStart
    split <;> nofun
  | feedIndicationStart =>
    show (execFeedIndicationStart s).Faultless
    unfold execFeedIndicationStart
    split <;> nofun
  | responseStart =>
    show (execResponseStart s).Faultless
    unfold execResponseStart
    split <;> nofun
  | backNoteStart =>
    show (execBackNoteStart s).Faultless
    unfold execBackNoteStart
    split <;> nofun
  | eventFrameStart =>
    show (execEventFrameStart s).Faultless
    unfold execEventFrameStart
    split <;> nofun
  | carrierPresent => exact Result.faultless_next _
  | carrierAbsent => exact Result.faultless_next _
  | dataTransmissionComplete =>
    show Result.Faultless (execDataTransmissionComplete s)
    refine State.onTransmission_faultless (fun s => ?_) _ s
    split <;> nofun
  | forwardNoteComplete =>
    show Result.Faultless (execForwardNoteComplete s)
    refine State.onTransmission_faultless (fun s => ?_) _ s
    split <;> nofun
  | drainIndicationComplete =>
    show Result.Faultless (execDrainIndicationComplete s)
    refine State.onTransmission_faultless (fun s => ?_) _ s
    split <;> nofun
  | responseComplete straps =>
    show Result.Faultless (execResponseComplete straps s)
    refine State.onTransmission_faultless (fun s => ?_) _ s
    split
    · split <;> nofun
    all_goals nofun
  | backNoteComplete =>
    show Result.Faultless (execBackNoteComplete s)
    refine State.onTransmission_faultless (fun s => ?_) _ s
    split <;> nofun
  | feedFrameComplete =>
    show Result.Faultless (execFeedFrameComplete s)
    refine State.onTransmission_faultless (fun s => ?_) _ s
    split <;> nofun
  | identify => exact s.effectStep_faultless _ _ _
  | readSettings => exact s.effectStep_faultless _ _ _
  | writeSettings => exact s.effectStep_faultless _ _ _
  | readStream => exact s.effectStep_faultless _ _ _
  | writeStream => exact s.effectStep_faultless _ _ _
  | openStream => exact s.effectStep_faultless _ _ _
  | closeStreamDrain => exact s.effectStep_faultless _ _ _
  | closeStreamDiscard => exact s.effectStep_faultless _ _ _
  | flushStream => exact s.effectStep_faultless _ _ _
  | restartStream => exact s.effectStep_faultless _ _ _
  | readCounters => exact s.effectStep_faultless _ _ _
  | clearNote => exact s.effectStep_faultless _ _ _
  | discardAll => exact s.effectStep_faultless _ _ _
  | resetDevice => exact s.effectStep_faultless _ _ _
  | unknownCommand => exact s.effectStep_faultless _ _ _

/-- R61, R63: in a lawful state the stream that the arbiter serves has the frame at its cursor (log 29). -/
theorem State.Lawful.dataTransmissionStart_faultless (h : s.Lawful) : Result.Faultless (Machine.exec .dataTransmissionStart s) := by
  show (execDataTransmissionStart s).Faultless
  unfold execDataTransmissionStart
  split
  · next choice hdecision =>
    obtain ⟨record, hrecord, -⟩ := (h (State.drainDecision_eq_some.1 hdecision).1.1.1).frameAtCursor hdecision
    rw [hrecord]
    exact Result.faultless_next _
  all_goals nofun

theorem State.Lawful.exec_faultless (h : s.Lawful) (c : Instr) : Result.Faultless (Machine.exec c s) := by
  by_cases hc : c = .dataTransmissionStart
  · subst hc
    exact h.dataTransmissionStart_faultless
  · exact Machine.exec_faultless hc s

end

/-- The laws do not read the queue of waiting commands. -/
theorem State.Lawful.withPending {s : State} (h : s.Lawful) (rest : List Instr) : ({ s with pending := rest } : State).Lawful :=
  fun hphase => (h hphase).congr (.refl s) rfl

/-- Settles O60: each kind of effect keeps the laws, and so does everything that is owed; the one command that can stop in a fault finds
the frame at the cursor. -/
theorem everyStepKeepsLaws : Obligations.EveryStepKeepsLaws := by
  intro s hrange h
  unfold step
  split
  · exact ⟨fun t hstep => by cases hstep; exact h, nofun⟩
  · next c rest hpending =>
    have hrest : ({ s with pending := rest } : State).InRange := { hrange with }
    exact ⟨fun t hstep => (h.withPending rest).exec hrest hstep, (h.withPending rest).exec_faultless c⟩

/-- R4: the row of profile 0, which every stream has right after reset. -/
theorem State.stream_reset (t : Tag) : State.reset.stream t = { config := resetConfig t, budget := (resetConfig t).replayBudget } := by
  unfold State.stream State.reset
  simp only [Vector.getElem_ofFn]

theorem resetConfig_inRange (t : Tag) : (resetConfig t).inRange = true := by
  rw [StreamConfig.inRange_iff]
  simp [resetConfig, StreamConfig.Valid]

theorem State.reset_inRange : State.reset.InRange where
  streams t := by
    rw [State.stream_reset]
    exact { config := resetConfig_inRange t, budget := Nat.le_refl _, timer := trivial }
  cells := rfl
  carrier := trivial
  credits := { class1 := (by decide : 8 ≤ 16), class2 := (by decide : 4 ≤ 16), class3 := (by decide : 1 ≤ 16) }
  notes :=
    { forward := trivial, back := trivial, doneToProducer := nofun, refusedToProducer := nofun, doneToConsumer := nofun
      refusedToConsumer := nofun }
  drainTx := trivial
  feedRx := trivial
  drainRx := trivial
  slots := Nat.zero_le _
  settings := (by decide : settingsInRange {} = true)
  events := { queue := by show 1 ≤ 16; omega, lost := Nat.zero_le _, lostOnlyWhenFull := nofun }

/-- Settles O58: every block is as a device reset leaves it, and no stream is open. -/
theorem resetIsSafe : Obligations.ResetIsSafe := by
  refine ⟨State.reset_inRange, fun _ => State.Calm.law ?_⟩
  refine .of_reset ⟨rfl, ⟨rfl, rfl⟩, ⟨rfl, rfl⟩, rfl, ⟨rfl, rfl⟩, rfl⟩ (fun t => ⟨_, _, State.stream_reset t⟩) fun d => ?_
  unfold State.mapped State.reset
  simp only [Vector.getElem_ofFn]

end Sys2Proof.Machine
end

section
/-!
What is owed is done before anything else is taken (O3): the part's own steps, one after the other, reach what a command finds.
-/

namespace Sys2Proof.Machine

section
variable {s t u : State} {c : Instr}

/-! ### The part's own steps in a row (R90, R102, R112, R170) -/

theorem OwnSteps.trans (h : OwnSteps s t) (h' : OwnSteps t u) : OwnSteps s u := by
  induction h with
  | none s => exact h'
  | cons c hown hexec hrest ih => exact .cons c hown hexec (ih h')

theorem OwnSteps.one (hown : c.ownStep = true) (h : exec c s = .next t) : OwnSteps s t := .cons c hown h (.none t)

theorem exec_timerExpiry {v : Tag} (hphase : s.phase = .running) (hdue : (s.stream v).timer = .due) :
    exec (.timerExpiry v) s = .next (s.expire v) := if_pos ⟨hphase, hdue⟩

theorem exec_carrierSettled (hphase : s.phase = .running) (hsettled : s.carrier = .settled) :
    exec .carrierSettled s = .next s.carrierUp := if_pos ⟨hphase, hsettled⟩

/-- R90: timers that are due expire one after the other. -/
theorem OwnSteps.expiries {l : List Tag} (hl : l.Nodup) (hphase : s.phase = .running) (hdue : ∀ v ∈ l, (s.stream v).timer = .due) :
    OwnSteps s (l.foldl State.expire s) := by
  induction l generalizing s with
  | nil => exact .none s
  | cons v rest ih =>
    obtain ⟨hv, hrest⟩ := List.nodup_cons.1 hl
    refine .cons (.timerExpiry v) rfl (exec_timerExpiry hphase (hdue v List.mem_cons_self)) (ih hrest ?_ fun w hw => ?_)
    · rw [s.expire_frame v]
      exact hphase
    · have hwv : w ≠ v := fun he => hv (he ▸ hw)
      rw [State.stream_expire_ne hwv]
      exact hdue w (List.mem_cons_of_mem _ hw)

/-- R90, R102: what the last tick made due, taken step by step. -/
theorem OwnSteps.takeTick (hphase : s.phase = .running) : OwnSteps s s.takeTick := by
  have hexpired : OwnSteps s s.expireDue :=
    .expiries (allTags_nodup.filter _) hphase fun v hv => beq_iff_eq.1 (List.mem_filter.1 hv).2
  have hrunning : s.expireDue.phase = .running := by
    rw [State.expireDue, State.foldl_expire_frame]
    exact hphase
  refine hexpired.trans ?_
  rw [State.takeTick]
  generalize s.expireDue = m at *
  unfold State.finishSettling
  split
  · next hsettled => exact .one (c := .carrierSettled) rfl (exec_carrierSettled hrunning hsettled)
  · exact .none m

/-- R61, R112: the drain arbiter's decision is carried out by its start command. -/
theorem exec_starter_of_hasFrame {k : DrainChoice} (h : s.drainDecision = some k) (hframe : s.HasFrame k) :
    exec k.starter s = .next s.decideDrain := by
  by_cases hk : ∃ choice, k = .data choice
  · obtain ⟨choice, rfl⟩ := hk
    obtain ⟨record, hrecord⟩ := Option.ne_none_iff_exists'.1 (hframe choice rfl)
    exact (exec_dataTransmissionStart h hrecord).trans (congrArg _ (State.decideDrain_of_data h hrecord).symm)
  · exact exec_starter_of_drainDecision h fun choice he => hk ⟨choice, he⟩

theorem OwnSteps.decideDrain (h : s.Law) : OwnSteps s s.decideDrain := by
  cases hdecision : s.drainDecision with
  | none =>
    rw [State.decideDrain_of_none hdecision]
    exact .none s
  | some k => exact .one (c := k.starter) (by cases k <;> rfl) (exec_starter_of_hasFrame hdecision (h.hasFrame hdecision))

theorem OwnSteps.decideFeed (s : State) : OwnSteps s s.decideFeed := by
  cases hdecision : s.feedDecision with
  | none =>
    rw [State.decideFeed_of_none hdecision]
    exact .none s
  | some k =>
    rw [State.decideFeed_of_some hdecision]
    exact .one (c := k.starter) (by cases k <;> rfl) (exec_starter_of_feedDecision hdecision)

/-! ### What `settle` leaves in a lawful state (R61) -/

theorem State.Law.settle_quiet (h : s.Law) (hrange : s.InRange) (hphase : s.phase = .running) : s.settle.Quiet := by
  obtain hquiet | ⟨-, -, -, -, choice, hdecision, hframe⟩ := s.settle_quiet hphase
  · exact hquiet
  · obtain ⟨record, hrecord, -⟩ := (keptByOwed_law.settle ⟨hrange, h⟩).2.frameAtCursor hdecision
    rw [hframe] at hrecord
    cases hrecord

theorem OwnSteps.settle (h : s.Law) (hrange : s.InRange) (hphase : s.phase = .running) :
    ∃ u, OwnSteps s u ∧ s.settle = { u with atTick := false } := by
  have htaken := keptByOwed_law.takeTick ⟨hrange, h⟩
  exact ⟨_, ((OwnSteps.takeTick hphase).trans (.decideDrain htaken.2)).trans (.decideFeed _), State.settle_running hphase⟩

theorem State.found_atTick (hphase : s.phase = .running) (htick : s.atTick = true) : s.found = { s.takeTick with atTick := false } := by
  obtain ⟨hreset, -⟩ | ⟨-, -, hfound⟩ | ⟨-, hnone, -⟩ := s.found_cases
  · exact absurd (hphase.symm.trans hreset) Phase.noConfusion
  · exact hfound
  · rw [htick] at hnone
    cases hnone

end

/-- Settles O3: every command acts on what `settle` or `found` leaves, and the part's own steps reach both. -/
theorem owedStepsComeFirst : Obligations.OwedStepsComeFirst := by
  intro s alone
  refine ⟨fun c hc => ?_, fun c hown hc => ?_, fun howes => ⟨State.settle_of_owes_nothing howes, State.found_of_owes_nothing howes⟩,
    fun hphase htick => ?_, fun hrange hlaw hphase => ⟨(hlaw hphase).settle_quiet hrange hphase, OwnSteps.settle (hlaw hphase) hrange hphase⟩⟩
  · obtain ⟨effect, heffect⟩ := exec_of_alone hc
    rw [heffect, heffect, State.afterOwed, State.afterOwed, State.settle_settle]
  · obtain ⟨effect, heffect⟩ := exec_of_not_alone hown hc
    refine ⟨fun hphase htick => ?_, fun u hfound => ?_⟩
    · have hsettled : s.settle.atTick = false := by
        rw [State.settle_running hphase]
        rfl
      rw [heffect, heffect, State.besideOwed, State.besideOwed, State.found_eq_settle htick, State.found_eq_settle hsettled,
        State.settle_settle]
    · rw [heffect, heffect, State.besideOwed, State.besideOwed, hfound]
  · have hfound := State.found_atTick hphase htick
    refine ⟨State.tickOwes_found hphase, ?_, ?_, s.takeTick, .takeTick hphase, hfound⟩
    · rw [hfound, State.takeTick_frame]
    · rw [hfound, State.takeTick_frame]

end Sys2Proof.Machine
end

section
/-!
No command reads or changes the queue of waiting commands (O2): every operation of the model commutes with an exchange of the queue. Where
an operation is one record update the two sides are the same by definition; the others follow from the operations that they use.
-/

namespace Sys2Proof.Machine

/-- The state with another queue of waiting commands. -/
def State.requeue (s : State) (q : List Instr) : State := { s with pending := q }

section
variable {s : State} {q : List Instr} {t : Tag} {serial : Serial} {record : FrameRecord} {n m : Nat}

/-! ### What is read of a state -/

theorem State.requeue_phase : (s.requeue q).phase = s.phase := rfl
theorem State.requeue_resetPin : (s.requeue q).resetPin = s.resetPin := rfl
theorem State.requeue_carrierPin : (s.requeue q).carrierPin = s.carrierPin := rfl
theorem State.requeue_pool : (s.requeue q).pool = s.pool := rfl
theorem State.requeue_feedRx : (s.requeue q).feedRx = s.feedRx := rfl
theorem State.requeue_feedTx : (s.requeue q).feedTx = s.feedTx := rfl
theorem State.requeue_drainRx : (s.requeue q).drainRx = s.drainRx := rfl
theorem State.requeue_drainTx : (s.requeue q).drainTx = s.drainTx := rfl
theorem State.requeue_carrier : (s.requeue q).carrier = s.carrier := rfl
theorem State.requeue_slots : (s.requeue q).slots = s.slots := rfl
theorem State.requeue_atTick : (s.requeue q).atTick = s.atTick := rfl
theorem State.requeue_stream : (s.requeue q).stream t = s.stream t := rfl

theorem State.requeue_chooseAmong {classes : List StreamClass} {credits : ClassWeights} {funded : StreamClass → Bool} :
    (s.requeue q).chooseAmong classes credits funded = s.chooseAmong classes credits funded := by
  induction classes with
  | nil => rfl
  | cons c rest ih =>
    rw [State.chooseAmong, ih]
    rfl

theorem State.requeue_chooseData : (s.requeue q).chooseData = s.chooseData := by
  unfold State.chooseData
  simp only [State.requeue_chooseAmong]
  rfl

theorem State.requeue_drainDecision : (s.requeue q).drainDecision = s.drainDecision := by
  unfold State.drainDecision State.drainCandidate
  rw [State.requeue_chooseData]
  rfl

theorem State.requeue_feedDecision : (s.requeue q).feedDecision = s.feedDecision := rfl

/-! ### Record updates -/

/-- A choice between two states. -/
theorem State.requeue_ite {c : Prop} [Decidable c] {a b a' b' : State} (ha : a' = a.requeue q) (hb : b' = b.requeue q) :
    (if c then a' else b') = (if c then a else b).requeue q := by
  split
  · exact ha
  · exact hb

/-- A step along a list of tags. -/
theorem State.requeue_foldl {step : State → Tag → State} (h : ∀ (s : State) t, step (s.requeue q) t = (step s t).requeue q)
    (l : List Tag) (s : State) : l.foldl step (s.requeue q) = (l.foldl step s).requeue q := by
  induction l generalizing s with
  | nil => rfl
  | cons t rest ih => rw [List.foldl_cons, List.foldl_cons, h, ih]

/-! ### Events, pool and flow -/

theorem State.requeue_raise {e : EventRecord} : (s.requeue q).raise e = (s.raise e).requeue q := by
  rw [State.raise_eq, State.raise_eq]
  rfl

theorem State.requeue_evaluatePool : (s.requeue q).evaluatePool = s.evaluatePool.requeue q :=
  State.requeue_ite rfl (State.requeue_raise (s := { s with pool := _ }))

theorem State.requeue_evaluatePoolFrom : (s.requeue q).evaluatePoolFrom n = (s.evaluatePoolFrom n).requeue q :=
  State.requeue_ite rfl State.requeue_evaluatePool

theorem State.requeue_evaluateFlowFrom : (s.requeue q).evaluateFlowFrom t n = (s.evaluateFlowFrom t n).requeue q :=
  State.requeue_ite rfl rfl

/-- R167: the evaluations at the end of a step. -/
theorem State.requeue_evaluated : ((s.requeue q).evaluateFlowFrom t n).evaluatePoolFrom m =
    ((s.evaluateFlowFrom t n).evaluatePoolFrom m).requeue q := by
  rw [State.requeue_evaluateFlowFrom, State.requeue_evaluatePoolFrom]

theorem State.requeue_reserve : (s.requeue q).reserve t n = (s.reserve t n).map fun p => (p.1, p.2.requeue q) := by
  unfold State.reserve
  rw [State.requeue_pool]
  split
  · rfl
  · rw [Option.map_some, ← State.requeue_evaluated]
    rfl

theorem State.requeue_returnReservation : (s.requeue q).returnReservation record = (s.returnReservation record).requeue q := by
  unfold State.returnReservation
  rw [← State.requeue_evaluated]
  rfl

theorem State.requeue_deferredReturn : (s.requeue q).deferredReturn record = (s.deferredReturn record).requeue q :=
  State.requeue_evaluatePoolFrom (s := { s with pool := s.pool.giveBack [record] })

/-! ### Streams (R10 to R16, R80, R93) -/

theorem State.requeue_closeDrained {outcome : CloseOutcome} : (s.requeue q).closeDrained t outcome = (s.closeDrained t outcome).requeue q :=
  State.requeue_raise (s := s.enterClosed t)

theorem State.requeue_halt {cause : HaltCause} : (s.requeue q).halt t cause = (s.halt t cause).requeue q := by
  unfold State.halt
  rw [← State.requeue_raise]
  rfl

theorem State.requeue_expire : (s.requeue q).expire t = (s.expire t).requeue q := by
  refine State.requeue_ite ?_ ?_
  · rw [← State.requeue_raise]
    rfl
  · rw [← State.requeue_halt]
    rfl

theorem State.requeue_finishRelease {outcome : CloseOutcome} :
    (s.requeue q).finishRelease t outcome n m = (s.finishRelease t outcome n m).requeue q := by
  have hclose : (s.requeue q).closeIfDrained t outcome = (s.closeIfDrained t outcome).requeue q :=
    State.requeue_ite State.requeue_closeDrained rfl
  rw [State.finishRelease, hclose, State.requeue_evaluated]
  rfl

/-! ### Returns from the consumer (R68 to R79, R123) -/

theorem State.requeue_ackProgress : (s.requeue q).ackProgress t serial = (s.ackProgress t serial).requeue q := by
  unfold State.ackProgress
  dsimp only
  rw [← State.requeue_finishRelease]
  rfl

theorem State.requeue_replayRelease : (s.requeue q).replayRelease t serial = (s.replayRelease t serial).requeue q := by
  unfold State.replayRelease
  dsimp only
  rw [← State.requeue_finishRelease]
  rfl

theorem State.requeue_replayAtHead : (s.requeue q).replayAtHead t serial = (s.replayAtHead t serial).requeue q :=
  State.requeue_ite (State.requeue_ite rfl rfl) (State.requeue_ite (State.requeue_ite rfl State.requeue_halt) rfl)

theorem State.requeue_replayAccepted : (s.requeue q).replayAccepted t serial = (s.replayAccepted t serial).requeue q := by
  refine State.requeue_ite ?_ ?_
  · rw [← State.requeue_replayAtHead]
    rfl
  · rw [← State.requeue_replayRelease]
    rfl

theorem State.requeue_aheadReturn {kind : EventKind} {d : Byte} :
    (s.requeue q).aheadReturn t kind d serial = (s.aheadReturn t kind d serial).requeue q := State.requeue_raise

theorem State.requeue_strayReturn {kind d : Byte} {sent : BitVec 16} :
    (s.requeue q).strayReturn kind d sent = (s.strayReturn kind d sent).requeue q := State.requeue_raise (s := s.countDrainStray)

theorem State.requeue_takeAck {d : Byte} : (s.requeue q).takeAck t d serial = (s.takeAck t d serial).requeue q := by
  unfold State.takeAck
  rw [State.requeue_stream]
  split
  · exact State.requeue_ackProgress
  · rfl
  · exact State.requeue_aheadReturn

theorem State.requeue_takeReplay {d : Byte} : (s.requeue q).takeReplay t d serial = (s.takeReplay t d serial).requeue q := by
  unfold State.takeReplay
  rw [State.requeue_stream]
  split
  · exact State.requeue_replayAccepted
  · rfl
  · exact State.requeue_aheadReturn

/-! ### Notes and requests (R136 to R140, R146, R147) -/

theorem State.requeue_forwardNoteArrives {note : Note} : (s.requeue q).forwardNoteArrives note = (s.forwardNoteArrives note).requeue q :=
  State.requeue_ite rfl rfl

theorem State.requeue_backNoteArrives {note : Note} : (s.requeue q).backNoteArrives note = (s.backNoteArrives note).requeue q :=
  State.requeue_ite rfl rfl

theorem State.requeue_forwardNoteTaken {number : Byte} : (s.requeue q).forwardNoteTaken number = (s.forwardNoteTaken number).requeue q :=
  State.requeue_ite rfl rfl

theorem State.requeue_backNoteTaken {number : Byte} : (s.requeue q).backNoteTaken number = (s.backNoteTaken number).requeue q :=
  State.requeue_ite rfl rfl

theorem State.requeue_engineTake : (s.requeue q).engineTake = s.engineTake.requeue q := State.requeue_ite rfl rfl

theorem State.requeue_requestArrives {r : Request} : (s.requeue q).requestArrives r = (s.requestArrives r).requeue q :=
  State.requeue_ite (State.requeue_engineTake (s := { s with slots := _ })) (State.requeue_raise (s := s.countRequestLost))

theorem State.requeue_answer {r : Request} {status : Status} {result : List Byte} :
    (s.requeue q).answer r status result = (s.answer r status result).requeue q :=
  State.requeue_engineTake (s := { s with slots := _ })

/-! ### The carrier and the device reset (R102 to R105, R162) -/

theorem State.requeue_carrierUp : (s.requeue q).carrierUp = s.carrierUp.requeue q :=
  State.requeue_raise (s := { s with carrier := .up, streams := _ })

theorem State.requeue_carrierLoss : (s.requeue q).carrierLoss = s.carrierLoss.requeue q := by
  unfold State.carrierLoss
  rw [← State.requeue_evaluatePoolFrom, ← State.requeue_raise]
  rfl

theorem State.requeue_followCarrier : (s.requeue q).followCarrier = s.followCarrier.requeue q := by
  unfold State.followCarrier
  rw [State.requeue_carrierPin, State.requeue_carrier]
  split
  case h_8 => exact State.requeue_carrierLoss
  all_goals rfl

theorem State.requeue_setCarrierPin {present : Bool} : (s.requeue q).setCarrierPin present = (s.setCarrierPin present).requeue q :=
  State.requeue_ite (State.requeue_followCarrier (s := { s with carrierPin := present })) rfl

theorem State.requeue_deviceReset {straps : Straps} : (s.requeue q).deviceReset straps = (s.deviceReset straps).requeue q :=
  State.requeue_ite (State.requeue_foldl (fun _ _ => rfl) allTags (s.resetBlocks straps)) rfl

/-! ### What is owed (R90, R102, R112, R170) -/

theorem State.requeue_takeTick : (s.requeue q).takeTick = s.takeTick.requeue q := by
  have hexpired : (s.requeue q).expireDue = s.expireDue.requeue q := State.requeue_foldl (fun _ _ => State.requeue_expire) _ s
  rw [State.takeTick, hexpired]
  exact State.requeue_ite State.requeue_carrierUp rfl

theorem State.requeue_decideDrain : (s.requeue q).decideDrain = s.decideDrain.requeue q := by
  unfold State.decideDrain
  rw [State.requeue_drainDecision]
  split
  case h_4 =>
    rw [State.requeue_stream]
    split
    · rfl
    · rfl
  all_goals rfl

theorem State.requeue_startFeed {k : FeedChoice} : (s.requeue q).startFeed k = (s.startFeed k).requeue q := by
  cases k with
  | flow i => cases i <;> rfl
  | noteDone i => rfl
  | noteRefused i => rfl
  | response r => rfl
  | backNote n => rfl
  | event e => rfl

theorem State.requeue_decideFeed : (s.requeue q).decideFeed = s.decideFeed.requeue q := by
  unfold State.decideFeed
  rw [State.requeue_feedDecision]
  split
  · exact State.requeue_startFeed
  · rfl

theorem State.requeue_settle : (s.requeue q).settle = s.settle.requeue q := by
  unfold State.settle
  rw [State.requeue_phase, State.requeue_takeTick, State.requeue_decideDrain, State.requeue_decideFeed]
  split
  · rfl
  · rfl

theorem State.requeue_found : (s.requeue q).found = s.found.requeue q := by
  unfold State.found
  rw [State.requeue_phase, State.requeue_atTick, State.requeue_settle, State.requeue_takeTick]
  split
  · rfl
  · exact State.requeue_ite rfl rfl

/-! ### Reception on the drain link (R106, R121) -/

theorem State.requeue_returnStarts : (s.requeue q).returnStarts = s.returnStarts.requeue q := by
  rw [State.returnStarts_eq, State.returnStarts_eq]
  rfl

theorem State.requeue_takeReturn {symbols : List LaneSymbol} : (s.requeue q).takeReturn symbols = (s.takeReturn symbols).requeue q := by
  unfold State.takeReturn
  rw [State.requeue_drainRx]
  split
  case h_1 => exact State.requeue_ite rfl rfl
  all_goals rfl

theorem State.requeue_receive {opens : Bool} {symbols : List LaneSymbol} :
    (s.requeue q).receive opens symbols = (s.receive opens symbols).requeue q := by
  unfold State.receive
  rw [← State.requeue_takeReturn]
  exact congrArg (State.takeReturn · symbols) (State.requeue_ite State.requeue_returnStarts rfl)

/-! ### Reception on the feed link (R40 to R52) -/

theorem State.requeue_completeData {resident : Bool} : (s.requeue q).completeData record resident = (s.completeData record resident).requeue q :=
  State.requeue_ite rfl (State.requeue_deferredReturn (s := { s with drainTx := none }))

theorem State.requeue_refuseLimit : (s.requeue q).refuseLimit t = (s.refuseLimit t).requeue q := by
  refine State.requeue_ite rfl ?_
  rw [← State.requeue_raise]
  rfl

section
variable {body received : List Byte} {running : CheckWord} {damaged : Bool}

theorem State.requeue_beginStoring :
    (s.requeue q).beginStoring t n body running damaged = (s.beginStoring t n body running damaged).requeue q := by
  unfold State.beginStoring
  rw [State.requeue_reserve]
  cases s.reserve t n with
  | none => rfl
  | some p => rfl

theorem State.requeue_takeData : (s.requeue q).takeData t n body running damaged = (s.takeData t n body running damaged).requeue q := by
  unfold State.takeData
  rw [show (s.requeue q).admission t (cellsFor n) = s.admission t (cellsFor n) from rfl]
  split
  · rfl
  · rw [State.requeue_refuseLimit]
    rfl
  · rfl
  · exact State.requeue_beginStoring

theorem State.requeue_takeHeader : (s.requeue q).takeHeader received damaged = (s.takeHeader received damaged).requeue q := by
  refine State.requeue_ite rfl ?_
  dsimp only
  split
  · rfl
  · exact State.requeue_takeData
  · rfl

end

theorem State.requeue_endData {verdict : FrameVerdict} : (s.requeue q).endData record verdict = (s.endData record verdict).requeue q := by
  cases verdict with
  | countMismatch =>
    rw [State.endData_countMismatch, State.requeue_returnReservation]
    rfl
  | checkMismatch =>
    rw [State.endData_checkMismatch, State.requeue_returnReservation]
    rfl
  | good => exact State.requeue_ite rfl (congrArg (State.countStream · record.stream _) State.requeue_returnReservation)

/-! ### Requests (R10 to R23, R82 to R86) -/

theorem State.requeue_writeConfig {k : StreamConfig} : (s.requeue q).writeConfig t k = (s.writeConfig t k).requeue q :=
  State.requeue_ite rfl rfl

theorem State.requeue_discardClose : (s.requeue q).discardClose t = (s.discardClose t).requeue q :=
  State.requeue_evaluatePoolFrom (s := (s.emptied t).enterClosed t)

theorem State.requeue_flush : (s.requeue q).flush t serial = (s.flush t serial).requeue q := by
  rw [State.flush_eq, State.flush_eq, ← State.requeue_finishRelease]
  rfl

theorem State.requeue_discardStream : (s.requeue q).discardStream t = (s.discardStream t).requeue q := by
  unfold State.discardStream
  rw [State.requeue_stream]
  dsimp only
  split
  · rfl
  · exact State.requeue_evaluateFlowFrom (s := s.emptied t)
  · exact State.requeue_closeDrained (s := s.emptied t)
  · exact State.requeue_evaluateFlowFrom (s := (s.emptied t).updateStream t Stream.reopen)

theorem State.requeue_discardAllStreams : (s.requeue q).discardAllStreams = s.discardAllStreams.requeue q := by
  unfold State.discardAllStreams
  rw [State.requeue_foldl (fun _ _ => State.requeue_discardStream), State.requeue_evaluatePoolFrom]
  rfl

/-! ### RESET_N and the tick (R90, R162, R184) -/

theorem State.requeue_shortPulse : (s.requeue q).shortPulse = s.shortPulse.requeue q := by
  unfold State.shortPulse
  rw [State.requeue_resetPin]
  split
  · rfl
  · rfl
  · rfl

theorem State.requeue_endShortPulse {straps : Straps} : (s.requeue q).endShortPulse straps = (s.endShortPulse straps).requeue q :=
  State.requeue_ite (State.requeue_deviceReset (s := { s with resetPin := .high, freeCount := s.freeCount + 1 }))
    (State.requeue_ite (State.requeue_followCarrier (s := { s with resetPin := .high, freeCount := s.freeCount + 1 })) rfl)

theorem State.requeue_tick : (s.requeue q).tick = s.tick.requeue q := by
  have hlowered : (s.requeue q).lowerCounts = s.lowerCounts.requeue q := rfl
  rw [State.tick, State.tick, hlowered]
  generalize s.lowerCounts = m
  rfl

end

end Sys2Proof.Machine
end

section
/-!
Every command commutes with an exchange of the queue of waiting commands, which settles O2.
-/

namespace Sys2Proof.Machine

/-- The result with another queue of waiting commands. -/
def Result.requeue (q : List Instr) : Result → Result
  | .next s => .next (s.requeue q)
  | .fault f => .fault f
  | .refused r => .refused r

/-- The answer with another queue of waiting commands. -/
def Answer.requeue (a : Answer) (q : List Instr) : Answer := { a with state := a.state.requeue q }

/-- An effect that neither reads nor changes the queue of waiting commands. -/
def QueueBlind (effect : State → Result) : Prop := ∀ (s : State) (q : List Instr), effect (s.requeue q) = (effect s).requeue q

section
variable {s : State} {q : List Instr} {effect : State → Result}

theorem Result.requeue_ite {c : Prop} [Decidable c] {a b a' b' : Result} (ha : a' = a.requeue q) (hb : b' = b.requeue q) :
    (if c then a' else b') = Result.requeue q (if c then a else b) := by
  split
  · exact ha
  · exact hb

theorem Result.requeue_next {t u : State} (h : u = t.requeue q) : (.next u : Result) = Result.requeue q (.next t) := congrArg _ h

/-! ### What a command acts on -/

theorem QueueBlind.afterOwed (h : QueueBlind effect) : QueueBlind fun s => s.afterOwed effect := fun s q => by
  simp only [State.afterOwed, State.requeue_settle, h s.settle q]

theorem QueueBlind.besideOwed (h : QueueBlind effect) : QueueBlind fun s => s.besideOwed effect := fun s q => by
  simp only [State.besideOwed, State.requeue_found, h s.found q]

theorem QueueBlind.onInput (h : QueueBlind effect) : QueueBlind fun s => s.onInput effect :=
  QueueBlind.besideOwed fun s q => Result.requeue_ite (h s q) rfl

theorem QueueBlind.onTransmission (h : QueueBlind effect) (mnemonic : String) : QueueBlind fun s => s.onTransmission mnemonic effect :=
  QueueBlind.besideOwed fun s q => Result.requeue_ite (h s q) rfl

/-! ### Power, RESET_N, the tick and CARRIER -/

theorem queueBlind_powerUp (high : Bool) : QueueBlind (execPowerUp high) := QueueBlind.afterOwed fun _ _ => rfl

theorem queueBlind_resetNLow (pulse : PulseLength) : QueueBlind (execResetNLow pulse) := by
  refine QueueBlind.afterOwed (fun s q => ?_)
  cases pulse with
  | atLeast1us => rfl
  | under1us => exact Result.requeue_next State.requeue_shortPulse

theorem queueBlind_deviceReset (straps : Straps) : QueueBlind (execDeviceReset straps) := by
  refine QueueBlind.afterOwed (fun s q => ?_)
  rw [State.requeue_resetPin]
  split
  · exact Result.requeue_next State.requeue_endShortPulse
  · exact Result.requeue_next (State.requeue_deviceReset (s := { s with resetPin := .high }))
  · exact Result.requeue_next State.requeue_deviceReset

theorem queueBlind_tick : QueueBlind execTick := by
  refine QueueBlind.afterOwed (fun s q => ?_)
  rw [State.requeue_phase, State.requeue_tick]
  split <;> rfl

theorem queueBlind_carrierPresent : QueueBlind execCarrierPresent :=
  QueueBlind.besideOwed fun _ _ => Result.requeue_next State.requeue_setCarrierPin

theorem queueBlind_carrierAbsent : QueueBlind execCarrierAbsent :=
  QueueBlind.besideOwed fun _ _ => Result.requeue_next State.requeue_setCarrierPin

/-! ### The feed link -/

theorem QueueBlind.endStaged {handOn : List Byte → State → State} (h : ∀ payload s q, handOn payload (State.requeue s q) =
    (handOn payload s).requeue q) (kind : Byte) (mnemonic : String) (symbols : List LaneSymbol) :
    QueueBlind fun s => s.endStaged kind mnemonic symbols handOn := by
  refine QueueBlind.onInput fun s q => ?_
  dsimp only
  rw [State.requeue_feedRx]
  split
  case h_1 =>
    refine Result.requeue_ite ?_ rfl
    rw [show (s.requeue q).arrived symbols = s.arrived symbols from rfl]
    split
    · rfl
    · rfl
    · exact Result.requeue_next (h _ ((s.drawFree _).setFeedRx .awaitStart) q)
  all_goals rfl

theorem queueBlind_feedHeader (symbols : List LaneSymbol) : QueueBlind (execFeedHeader symbols) := by
  refine QueueBlind.onInput fun s q => ?_
  dsimp only
  rw [State.requeue_feedRx]
  split
  case h_1 => exact Result.requeue_next (State.requeue_takeHeader (s := s.drawFree _))
  case h_2 => exact Result.requeue_next (State.requeue_takeHeader (s := s.drawFree _))
  all_goals rfl

theorem queueBlind_dataFrameEnd (symbols : List LaneSymbol) : QueueBlind (execDataFrameEnd symbols) := by
  refine QueueBlind.onInput fun s q => ?_
  dsimp only
  rw [State.requeue_feedRx]
  split
  case h_1 =>
    exact Result.requeue_next (congrArg (State.setFeedRx · .awaitStart) (State.requeue_endData (s := (s.drawFree _).storeBytes _ _)))
  all_goals rfl

theorem queueBlind_feedFrameCutShort (marker : Marker) (symbols : List LaneSymbol) : QueueBlind (execFeedFrameCutShort marker symbols) := by
  refine QueueBlind.onInput fun s q => ?_
  dsimp only
  rw [State.requeue_feedRx]
  split
  case h_1 => exact Result.requeue_ite rfl rfl
  case h_2 => exact Result.requeue_ite rfl rfl
  case h_3 =>
    exact Result.requeue_next (congrArg (fun u : State => u.countFeedMalformed.setFeedRx (.header [] false))
      (State.requeue_returnReservation (s := (s.drawFree _).storeBytes _ _)))
  all_goals rfl

theorem queueBlind_feedFrameIgnored (symbols : List LaneSymbol) : QueueBlind (execFeedFrameIgnored symbols) := by
  refine QueueBlind.onInput fun s q => ?_
  rw [State.requeue_feedRx]
  split <;> rfl

theorem queueBlind_skippingFrameEnd (symbols : List LaneSymbol) : QueueBlind (execSkippingFrameEnd symbols) := by
  refine QueueBlind.onInput fun s q => ?_
  rw [State.requeue_feedRx]
  split <;> rfl

theorem queueBlind_requestArrival (symbols : List LaneSymbol) : QueueBlind (execRequestArrival symbols) :=
  QueueBlind.endStaged (fun _ _ _ => State.requeue_requestArrives) _ _ symbols

theorem queueBlind_producerNote (symbols : List LaneSymbol) : QueueBlind (execProducerNote symbols) :=
  QueueBlind.endStaged (fun _ _ _ => State.requeue_forwardNoteArrives) _ _ symbols

theorem queueBlind_producerNoteTaken (symbols : List LaneSymbol) : QueueBlind (execProducerNoteTaken symbols) :=
  QueueBlind.endStaged (fun _ _ _ => State.requeue_backNoteTaken) _ _ symbols

/-! ### The drain link -/

theorem State.requeue_endReturn {good good' : List Byte → State → Result}
    (h : ∀ bytes (s : State), good' bytes (s.requeue q) = (good bytes s).requeue q) :
    (s.requeue q).endReturn good' = (s.endReturn good).requeue q := by
  unfold State.endReturn
  rw [State.requeue_drainRx]
  dsimp only
  split
  case h_1 =>
    split
    · rfl
    · rfl
    · exact h _ (s.setDrainRx .awaitStart)
  all_goals rfl

theorem QueueBlind.onReturn {effect : State → State} (h : ∀ s q, effect (State.requeue s q) = (effect s).requeue q) (mnemonic : String)
    (part : FramePart) (frame : List Byte) : QueueBlind fun s => s.onReturn mnemonic part frame effect := by
  refine QueueBlind.onInput fun s q => ?_
  have hends : ∀ symbols, ((s.requeue q).receive (opensFrame part) symbols).endReturn (fun bytes ended =>
      if bytes = frame then .next (effect ended) else .refused (.notPossible mnemonic)) =
      Result.requeue q ((s.receive (opensFrame part) symbols).endReturn fun bytes ended =>
        if bytes = frame then .next (effect ended) else .refused (.notPossible mnemonic)) := fun symbols => by
    rw [State.requeue_receive]
    exact State.requeue_endReturn fun bytes u => Result.requeue_ite (Result.requeue_next (h u q)) rfl
  cases part with
  | opening count => exact Result.requeue_next State.requeue_receive
  | whole => exact hends _
  | closing => exact hends _

theorem queueBlind_ack (part : FramePart) (fields : ReturnFields) : QueueBlind (execAck part fields) := by
  refine QueueBlind.onReturn (fun s q => ?_) _ part _
  rw [show (s.requeue q).streamOf fields.drainTag = s.streamOf fields.drainTag from rfl]
  split
  · exact State.requeue_takeAck
  · exact State.requeue_strayReturn

theorem queueBlind_replay (part : FramePart) (fields : ReturnFields) : QueueBlind (execReplay part fields) := by
  refine QueueBlind.onReturn (fun s q => ?_) _ part _
  rw [show (s.requeue q).streamOf fields.drainTag = s.streamOf fields.drainTag from rfl]
  split
  · exact State.requeue_takeReplay
  · exact State.requeue_strayReturn

theorem queueBlind_hold (frame : FramePart × ReturnFields) : QueueBlind (execHold frame) := by
  refine QueueBlind.onReturn (fun s q => ?_) _ _ _
  refine State.requeue_ite rfl ?_
  rw [show (s.requeue q).streamOf frame.2.drainTag = s.streamOf frame.2.drainTag from rfl]
  split
  · rfl
  · exact State.requeue_strayReturn

theorem queueBlind_resume (frame : FramePart × ReturnFields) : QueueBlind (execResume frame) := by
  refine QueueBlind.onReturn (fun s q => ?_) _ _ _
  refine State.requeue_ite rfl ?_
  rw [show (s.requeue q).streamOf frame.2.drainTag = s.streamOf frame.2.drainTag from rfl]
  split
  · rfl
  · exact State.requeue_strayReturn

theorem queueBlind_drainFrameDropped (extent : Extent) (symbols : List LaneSymbol) : QueueBlind (execDrainFrameDropped extent symbols) := by
  refine QueueBlind.onInput fun s q => ?_
  dsimp only
  rw [State.requeue_receive]
  split
  · rfl
  · exact Result.requeue_next State.requeue_returnStarts
  · exact State.requeue_endReturn fun _ _ => rfl

theorem queueBlind_returnFrameDiscarded (portion : Portion) : QueueBlind (execReturnFrameDiscarded portion) := by
  refine QueueBlind.onInput fun s q => ?_
  dsimp only
  rw [State.requeue_receive, State.requeue_drainRx]
  split
  case h_4 => exact Result.requeue_next State.requeue_returnStarts
  all_goals rfl

/-! ### The ends of transmissions -/

theorem queueBlind_dataTransmissionComplete : QueueBlind execDataTransmissionComplete := by
  refine QueueBlind.onTransmission (fun s q => ?_) _
  rw [State.requeue_drainTx]
  split
  case h_1 => exact Result.requeue_next State.requeue_completeData
  all_goals rfl

theorem queueBlind_forwardNoteComplete : QueueBlind execForwardNoteComplete := by
  refine QueueBlind.onTransmission (fun s q => ?_) _
  rw [State.requeue_drainTx]
  split <;> rfl

theorem queueBlind_drainIndicationComplete : QueueBlind execDrainIndicationComplete := by
  refine QueueBlind.onTransmission (fun s q => ?_) _
  rw [State.requeue_drainTx]
  split <;> rfl

theorem queueBlind_responseComplete (straps : Straps) : QueueBlind (execResponseComplete straps) := by
  refine QueueBlind.onTransmission (fun s q => ?_) _
  rw [State.requeue_feedTx]
  split
  case h_1 => exact Result.requeue_ite (Result.requeue_next State.requeue_deviceReset) rfl
  all_goals rfl

theorem queueBlind_backNoteComplete : QueueBlind execBackNoteComplete := by
  refine QueueBlind.onTransmission (fun s q => ?_) _
  rw [State.requeue_feedTx]
  split <;> rfl

theorem queueBlind_feedFrameComplete : QueueBlind execFeedFrameComplete := by
  refine QueueBlind.onTransmission (fun s q => ?_) _
  rw [State.requeue_feedTx]
  split <;> rfl

/-! ### Requests (R147) -/

theorem QueueBlind.effectStep {effect : Request → State → Answer} (h : ∀ r s q, effect r (State.requeue s q) = (effect r s).requeue q)
    (mnemonic : String) (takes : Request → Bool) : QueueBlind fun s => s.effectStep mnemonic takes effect := by
  refine QueueBlind.besideOwed fun s q => ?_
  rw [State.requeue_slots]
  split
  · next r _ =>
    refine Result.requeue_ite ?_ rfl
    rw [h]
    exact Result.requeue_next State.requeue_answer
  · rfl

section
variable {r : Request}

theorem Answer.requeue_ite {c : Prop} [Decidable c] {a b a' b' : Answer} (ha : a' = a.requeue q) (hb : b' = b.requeue q) :
    (if c then a' else b') = Answer.requeue (if c then a else b) q := by
  split
  · exact ha
  · exact hb

theorem Answer.requeue_ok {t u : State} {result : List Byte} (h : u = t.requeue q) : Answer.ok u result = (Answer.ok t result).requeue q :=
  congrArg (Answer.ok · result) h

theorem plainCommand_requeue {effect : State → Answer} (h : effect (s.requeue q) = (effect s).requeue q) :
    plainCommand r (s.requeue q) effect = (plainCommand r s effect).requeue q :=
  Answer.requeue_ite rfl (Answer.requeue_ite rfl h)

theorem answerWriteSettings_requeue : answerWriteSettings r (s.requeue q) = (answerWriteSettings r s).requeue q := by
  refine Answer.requeue_ite rfl ?_
  split
  · rfl
  · next x _ =>
    have hevaluated : ({ s.requeue q with settings := x } : State).evaluatePool =
        ({ s with settings := x } : State).evaluatePool.requeue q := State.requeue_evaluatePool (s := { s with settings := x })
    dsimp only
    rw [hevaluated]
    rfl

theorem answerReadStream_requeue : answerReadStream r (s.requeue q) = (answerReadStream r s).requeue q := by
  unfold answerReadStream
  split
  · rfl
  · exact Answer.requeue_ite rfl rfl

theorem answerReadCounters_requeue : answerReadCounters r (s.requeue q) = (answerReadCounters r s).requeue q := by
  unfold answerReadCounters
  split
  · split
    · rfl
    · exact Answer.requeue_ok (State.requeue_ite rfl rfl)
  · split
    · rfl
    · split
      · rfl
      · exact Answer.requeue_ok (State.requeue_ite rfl rfl)

theorem answerWriteStream_requeue : answerWriteStream r (s.requeue q) = (answerWriteStream r s).requeue q := by
  unfold answerWriteStream
  split
  · rfl
  · split
    · rfl
    · refine Answer.requeue_ite rfl ?_
      rw [State.requeue_writeConfig]
      rfl

theorem answerOpenStream_requeue : answerOpenStream r (s.requeue q) = (answerOpenStream r s).requeue q := by
  unfold answerOpenStream
  split
  · rfl
  · split
    · rfl
    · refine Answer.requeue_ite rfl ?_
      rw [show ∀ d, (s.requeue q).mapped d = s.mapped d from fun _ => rfl, State.requeue_stream]
      split
      · rfl
      · rfl

theorem answerCloseStream_requeue : answerCloseStream r (s.requeue q) = (answerCloseStream r s).requeue q := by
  unfold answerCloseStream
  split
  · rfl
  · split
    · rfl
    · unfold State.closeByDrain
      rw [State.requeue_stream]
      split
      · rfl
      · rfl
      · rfl
      · exact Answer.requeue_ite rfl rfl
    · unfold State.closeByDiscard
      rw [State.requeue_stream, State.requeue_discardClose]
      split
      · rfl
      · rfl
      · rfl
      · rfl

theorem answerFlushStream_requeue : answerFlushStream r (s.requeue q) = (answerFlushStream r s).requeue q := by
  unfold answerFlushStream
  split
  · rfl
  · split
    · rfl
    · exact Answer.requeue_ite rfl (Answer.requeue_ok State.requeue_flush)

theorem answerRestartStream_requeue : answerRestartStream r (s.requeue q) = (answerRestartStream r s).requeue q := by
  unfold answerRestartStream
  split
  · rfl
  · exact Answer.requeue_ite rfl (Answer.requeue_ite rfl rfl)

theorem answerClearNote_requeue : answerClearNote r (s.requeue q) = (answerClearNote r s).requeue q := by
  refine Answer.requeue_ite rfl ?_
  split
  · rfl
  · rfl
  · rfl

end

/-! ### Every command -/

theorem exec_requeue (c : Instr) (s : State) (q : List Instr) : exec c (s.requeue q) = Result.requeue q (exec c s) := by
  cases c with
  | powerUp high => exact queueBlind_powerUp high s q
  | resetNLow pulse => exact queueBlind_resetNLow pulse s q
  | deviceReset straps => exact queueBlind_deviceReset straps s q
  | tick => exact queueBlind_tick s q
  | feedHeader symbols => exact queueBlind_feedHeader symbols s q
  | dataFrameEnd symbols => exact queueBlind_dataFrameEnd symbols s q
  | feedFrameCutShort marker symbols => exact queueBlind_feedFrameCutShort marker symbols s q
  | feedFrameIgnored symbols => exact queueBlind_feedFrameIgnored symbols s q
  | skippingFrameEnd symbols => exact queueBlind_skippingFrameEnd symbols s q
  | requestArrival symbols => exact queueBlind_requestArrival symbols s q
  | producerNote symbols => exact queueBlind_producerNote symbols s q
  | producerNoteTaken symbols => exact queueBlind_producerNoteTaken symbols s q
  | ack part fields => exact queueBlind_ack part fields s q
  | replay part fields => exact queueBlind_replay part fields s q
  | hold frame => exact queueBlind_hold frame s q
  | resume frame => exact queueBlind_resume frame s q
  | consumerNote part fields => exact QueueBlind.onReturn (fun _ _ => State.requeue_backNoteArrives) _ part _ s q
  | consumerNoteTaken frame => exact QueueBlind.onReturn (fun _ _ => State.requeue_forwardNoteTaken) _ _ _ s q
  | drainFrameDropped extent symbols => exact queueBlind_drainFrameDropped extent symbols s q
  | returnFrameDiscarded portion => exact queueBlind_returnFrameDiscarded portion s q
  | timerExpiry v => exact Result.requeue_ite (Result.requeue_next State.requeue_expire) rfl
  | carrierSettled => exact Result.requeue_ite (Result.requeue_next State.requeue_carrierUp) rfl
  | dataTransmissionStart =>
    show execDataTransmissionStart (s.requeue q) = Result.requeue q (execDataTransmissionStart s)
    unfold execDataTransmissionStart
    rw [State.requeue_drainDecision]
    split
    case h_1 =>
      rw [State.requeue_stream]
      split <;> rfl
    all_goals rfl
  | forwardNoteStart =>
    show execForwardNoteStart (s.requeue q) = Result.requeue q (execForwardNoteStart s)
    unfold execForwardNoteStart
    rw [State.requeue_drainDecision]
    split <;> rfl
  | drainIndicationStart =>
    show execDrainIndicationStart (s.requeue q) = Result.requeue q (execDrainIndicationStart s)
    unfold execDrainIndicationStart
    rw [State.requeue_drainDecision]
    split <;> rfl
  | flowFrameStart =>
    show execFlowFrameStart (s.requeue q) = Result.requeue q (execFlowFrameStart s)
    unfold execFlowFrameStart
    rw [State.requeue_feedDecision]
    split
    case h_1 => exact Result.requeue_next State.requeue_startFeed
    all_goals rfl
  | feedIndicationStart =>
    show execFeedIndicationStart (s.requeue q) = Result.requeue q (execFeedIndicationStart s)
    unfold execFeedIndicationStart
    rw [State.requeue_feedDecision]
    split <;> rfl
  | responseStart =>
    show execResponseStart (s.requeue q) = Result.requeue q (execResponseStart s)
    unfold execResponseStart
    rw [State.requeue_feedDecision]
    split <;> rfl
  | backNoteStart =>
    show execBackNoteStart (s.requeue q) = Result.requeue q (execBackNoteStart s)
    unfold execBackNoteStart
    rw [State.requeue_feedDecision]
    split <;> rfl
  | eventFrameStart =>
    show execEventFrameStart (s.requeue q) = Result.requeue q (execEventFrameStart s)
    unfold execEventFrameStart
    rw [State.requeue_feedDecision]
    split <;> rfl
  | carrierPresent => exact queueBlind_carrierPresent s q
  | carrierAbsent => exact queueBlind_carrierAbsent s q
  | dataTransmissionComplete => exact queueBlind_dataTransmissionComplete s q
  | forwardNoteComplete => exact queueBlind_forwardNoteComplete s q
  | drainIndicationComplete => exact queueBlind_drainIndicationComplete s q
  | responseComplete straps => exact queueBlind_responseComplete straps s q
  | backNoteComplete => exact queueBlind_backNoteComplete s q
  | feedFrameComplete => exact queueBlind_feedFrameComplete s q
  | identify => exact QueueBlind.effectStep (fun _ _ _ => plainCommand_requeue rfl) _ _ s q
  | readSettings => exact QueueBlind.effectStep (fun _ _ _ => plainCommand_requeue rfl) _ _ s q
  | writeSettings => exact QueueBlind.effectStep (fun _ _ _ => answerWriteSettings_requeue) _ _ s q
  | readStream => exact QueueBlind.effectStep (fun _ _ _ => answerReadStream_requeue) _ _ s q
  | writeStream => exact QueueBlind.effectStep (fun _ _ _ => answerWriteStream_requeue) _ _ s q
  | openStream => exact QueueBlind.effectStep (fun _ _ _ => answerOpenStream_requeue) _ _ s q
  | closeStreamDrain => exact QueueBlind.effectStep (fun _ _ _ => answerCloseStream_requeue) _ _ s q
  | closeStreamDiscard => exact QueueBlind.effectStep (fun _ _ _ => answerCloseStream_requeue) _ _ s q
  | flushStream => exact QueueBlind.effectStep (fun _ _ _ => answerFlushStream_requeue) _ _ s q
  | restartStream => exact QueueBlind.effectStep (fun _ _ _ => answerRestartStream_requeue) _ _ s q
  | readCounters => exact QueueBlind.effectStep (fun _ _ _ => answerReadCounters_requeue) _ _ s q
  | clearNote => exact QueueBlind.effectStep (fun _ _ _ => answerClearNote_requeue) _ _ s q
  | discardAll =>
    exact QueueBlind.effectStep (fun _ _ _ => plainCommand_requeue (Answer.requeue_ok State.requeue_discardAllStreams)) _ _ s q
  | resetDevice => exact QueueBlind.effectStep (fun _ _ _ => plainCommand_requeue rfl) _ _ s q
  | unknownCommand => exact QueueBlind.effectStep (fun _ _ _ => rfl) _ _ s q

end

/-- Settles O2: exchanging the queue for itself says that a command leaves it. -/
theorem execLeavesQueue : Obligations.ExecLeavesQueue := by
  intro c s t hexec
  refine ⟨?_, fun q => ?_⟩
  · have hsame := exec_requeue c s s.pending
    rw [show s.requeue s.pending = s from rfl, hexec] at hsame
    injection hsame with ht
    have hpending := congrArg State.pending ht
    exact hpending
  · have hexchanged := exec_requeue c s q
    rw [hexec] at hexchanged
    exact hexchanged

end Sys2Proof.Machine
end
